-- ==== Sys2Proof/Word.lean ====
section
/-! DEFINITION. The word types of the block: one name per width of the state elements (10_state.md R32). -/

namespace Sys2Proof

/-- An event word: 8 bits, one event (30_encoding.md R70). -/
abbrev Byte := BitVec 8

/-- The gate downcounter's width, DOWN_BITS = 8 (00_scope.md R5; log 7). -/
abbrev DownWord := BitVec 8

/-- The edge counter's width, CNT_BITS = 16 (00_scope.md R5; log 7). -/
abbrev CntWord := BitVec 16

/-- The accumulator's width, ACC_BITS = 32 (00_scope.md R5; log 7). -/
abbrev AccWord := BitVec 32

/-- DUTY's width, DUTY_BITS = 8 (00_scope.md R4). -/
abbrev DutyWord := BitVec 8

/-- The PWM counter's width, PWM_BITS = DUTY_BITS = 8 (00_scope.md R5; log 7). -/
abbrev PwmWord := BitVec 8

end Sys2Proof
end

