-- ==== Sys2Proof/Config.lean ====
section
/-! DEFINITION. The configuration: the build-time constants of 00_scope.md R4 to R6, which configurations are
refused, and the free power-on contents (70_reset_and_hazards.md R240). -/

namespace Sys2Proof

/-- The parameters of 00_scope.md R4 and R5, "fixed at build time": no operation writes them (R40). -/
structure Params where
  /-- `GATE_TICKS`, serviced ticks in one gate window. -/
  gateTicks : Nat
  /-- `FULL_SCALE`, the full-scale frequency in frequency units. -/
  fullScale : Nat
  /-- `CNT_BITS`, the width of RAW. -/
  cntBits : Nat
  /-- `ACC_BITS`, the width of OVFACC. -/
  accBits : Nat
  /-- `DOWN_BITS`, the width of DOWNCNT. -/
  downBits : Nat
  /-- `PWM_BITS`, the width of PWMCNT. -/
  pwmBits : Nat
  /-- `THRESHOLD`, the least count of the high range (42_classifier.md R142). -/
  threshold : Nat
  deriving DecidableEq, Repr

/-- `DUTY_BITS` (R4). -/
abbrev Config.dutyBits : Nat := 8

/-- `QUANTUM = 2^CNT_BITS` (R6). -/
def Params.quantum (p : Params) : Nat := 2 ^ p.cntBits

/-- `DIV_HIGH = GATE_TICKS × FULL_SCALE` (R6). -/
def Params.divHigh (p : Params) : Nat := p.gateTicks * p.fullScale

/-- `DIV_LOW = GATE_TICKS × FULL_SCALE / 10` (R6). -/
def Params.divLow (p : Params) : Nat := p.gateTicks * p.fullScale / 10

/-- The parameters of a design with these two build-time constants and the spec's default widths; everything
derived is recomputed from the two (70_reset_and_hazards.md R249): `THRESHOLD = 255 × DIV_LOW` (R6, R142; log 8). -/
def Params.ofConstants (gateTicks fullScale : Nat) : Params :=
  { gateTicks, fullScale, cntBits := 16, accBits := 32, downBits := 8, pwmBits := 8
    threshold := 255 * (gateTicks * fullScale / 10) }

/-- Which configurations are not refused (log 23): the constraints of R5; `GATE_TICKS × FULL_SCALE` a positive
multiple of 10 (R6, 93_implementation_defined.md U15); `THRESHOLD ≤ 256 × DIV_LOW` (R6). -/
def Params.accepted (p : Params) : Bool :=
  decide (1 ≤ p.cntBits ∧ p.cntBits < p.accBits ∧ 32 ≤ p.accBits ∧ p.gateTicks < 2 ^ p.downBits ∧
    p.pwmBits = Config.dutyBits ∧ 0 < p.divHigh ∧ p.divHigh % 10 = 0 ∧ p.threshold ≤ 256 * p.divLow)

/-- The configuration of this design: GATE_TICKS = 200, FULL_SCALE = 20 (R4), the rest at the spec's defaults
(R5, R6; log 7, log 8). -/
def Config.params : Params := Params.ofConstants 200 20

/-- `draw(N)`, "a free N-bit value under no law, used only for power-on contents" (00_scope.md R10). The second
argument is the label n of S<n> (10_state.md R32), so that the draws of two elements are unrelated. No body: nothing
can be proved of its value (log 6). -/
opaque Config.draw : (width : Nat) → (label : Nat) → BitVec width

end Sys2Proof
end

