-- ==== Sys2Proof/Syntax.lean ====
section
/-! DEFINITION. The six operations: one constructor per row of spec/opcode_table.json (30_encoding.md R72). No
operation has an operand (R73). -/

namespace Sys2Proof

/-- The events of 30_encoding.md R72. -/
inductive Instr where
  /-- INIT: the host's initialisation call (45_service_and_init.md R186). -/
  | init
  /-- PULSE: one counted edge of the input signal (41_pulse_counter.md R120). -/
  | pulse
  /-- TICK: one fire of the periodic tick input (40_gate_timer.md R100). -/
  | tick
  /-- PWMCLK: one count of the free-running PWM counter (43_pwm_output.md R160). -/
  | pwmclk
  /-- SAMPLE: the host's `generate_output_sample()` (43_pwm_output.md R162). -/
  | sample
  /-- SVC: one interrupt service, run to completion (45_service_and_init.md R180). -/
  | svc
  deriving DecidableEq, Repr

end Sys2Proof
end

