-- ==== Sys2Proof/WellFormed.lean ====
section
/-! DEFINITION. Well-formedness: of an instruction (30_encoding.md R73), of an event word (R71, R74), of a trace
(70_reset_and_hazards.md R242). The configuration's check is `Params.accepted` in Config.lean. -/

namespace Sys2Proof

/-- No operation has an operand, a register field or an immediate (R71, R73), so there is nothing to violate. -/
def Instr.wellFormed : Instr → Bool
  | .init => true
  | .pulse => true
  | .tick => true
  | .pwmclk => true
  | .sample => true
  | .svc => true

/-- The field `rsv` of format E, bits 7:3 (R71). -/
def rsvField (w : Byte) : BitVec 5 := w.extractLsb' 3 5

/-- The field `op` of format E, bits 2:0 (R71). -/
def opField (w : Byte) : BitVec 3 := w.extractLsb' 0 3

/-- A word that spells an operation: `rsv` zero and `op` none of 0 and 7 (R74, R76). -/
def wordWellFormed (w : Byte) : Bool := rsvField w == 0 && opField w != 0 && opField w != 7

/-- A well-formed trace: its first event is INIT (70_reset_and_hazards.md R242) and no word is reserved
(30_encoding.md R76). -/
def traceWellFormed (ws : List Byte) : Bool := ws.head? == some 0x01#8 && ws.all wordWellFormed

end Sys2Proof
end

