-- ==== Sys2Proof/Decode.lean ====
section
/-! DEFINITION. Decoding of an event word (30_encoding.md R74), total and rejecting by name, and the encoder. The
encoding is the spec's own choice (D17; log 18). -/

namespace Sys2Proof

/-- Why a word spells no operation (R76). -/
inductive Reject where
  /-- `w[7:3] ≠ 0` (R74). -/
  | reservedBitsSet
  /-- `w[7:3] = 0` and `w[2:0]` is 0 or 7 (R74). -/
  | reservedOp
  deriving DecidableEq, Repr

/-- The operation that the 3-bit code selects, or none for the reserved codes 0 and 7 (R74). -/
def decodeOp (op : BitVec 3) : Option Instr :=
  match op.toNat with
  | 1 => some .init
  | 2 => some .pulse
  | 3 => some .tick
  | 4 => some .pwmclk
  | 5 => some .sample
  | 6 => some .svc
  | _ => none

/-- `decode(w)` of R74: total on the 256 words. -/
def decode (w : Byte) : Except Reject Instr :=
  if rsvField w ≠ 0 then .error .reservedBitsSet
  else
    match decodeOp (opField w) with
    | some i => .ok i
    | none => .error .reservedOp

/-- The word of an operation (the `word` column of R72). -/
def encode : Instr → Byte
  | .init => 0b00000001#8
  | .pulse => 0b00000010#8
  | .tick => 0b00000011#8
  | .pwmclk => 0b00000100#8
  | .sample => 0b00000101#8
  | .svc => 0b00000110#8

/-- The mnemonic of an operation (the `mnemonic` column of R72). -/
def Instr.mnemonic : Instr → String
  | .init => "INIT"
  | .pulse => "PULSE"
  | .tick => "TICK"
  | .pwmclk => "PWMCLK"
  | .sample => "SAMPLE"
  | .svc => "SVC"

/-- A row of the opcode map of R72: `word AND mask = match` selects it. -/
structure OpcodeRow where
  instr : Instr
  pattern : Byte
  mask : Byte
  deriving DecidableEq, Repr

/-- The opcode map of R72, with its `match` and `mask` columns. -/
def opcodeMap : List OpcodeRow :=
  [⟨.init, 0x01#8, 0xFF#8⟩, ⟨.pulse, 0x02#8, 0xFF#8⟩, ⟨.tick, 0x03#8, 0xFF#8⟩,
   ⟨.pwmclk, 0x04#8, 0xFF#8⟩, ⟨.sample, 0x05#8, 0xFF#8⟩, ⟨.svc, 0x06#8, 0xFF#8⟩]

/-- Whether a row of the opcode map selects a word (R72). -/
def OpcodeRow.selects (r : OpcodeRow) (w : Byte) : Bool := w &&& r.mask == r.pattern

/-- The bytes of a sequence of events, one byte per event in the order they happen (R70). -/
def assemble (t : List Instr) : List Byte := t.map encode

/-- The events that a sequence of bytes spells; the first reserved word rejects it (R70, R74). -/
def decodeTrace : List Byte → Except Reject (List Instr)
  | [] => .ok []
  | w :: ws =>
    match decode w with
    | .error e => .error e
    | .ok i =>
      match decodeTrace ws with
      | .error e => .error e
      | .ok t => .ok (i :: t)

/-- The event word held by an instruction of `nbits` bits whose bits are `w`: bits at and above `nbits` are 0, and
every word is one byte long (R70). -/
def tableWord (nbits w : Nat) : Byte := BitVec.ofNat 8 (w % 2 ^ nbits)

/-- The decoder, on an instruction numbered as spec/opcode_table.json numbers it. -/
def decodeTableWord (nbits w : Nat) : Option Instr :=
  match decode (tableWord nbits w) with
  | .ok i => some i
  | .error _ => none

end Sys2Proof
end

