-- ==== Sys2Proof/Machine/State.lean ====
section
/-! DEFINITION. The state: the nine elements of 10_state.md R32 and three fields of the model's own (the events to
come, the refusals recorded, whether INIT has happened), the reasons a step can stop, reset and power-on. -/

namespace Sys2Proof.Machine

/-- Faults: none. The block "raises no synchronous exception" and has "no distinguishable fatal state"
(60_exceptions.md R200; log 19). -/
inductive Fault where
  deriving DecidableEq, Repr

/-- The reasons of the spec's `refuse(reason)`: "the event changes no state and the model reports the reason", used
for these three only (00_scope.md R10). -/
inductive Verdict where
  /-- `refuse(reserved_word)` (30_encoding.md R76): raised by the step on a word that spells no operation. Safe: no
  element changes, as the rule says. -/
  | reservedWord
  /-- `refuse(not_initialised)` (70_reset_and_hazards.md R242): raised by every event but INIT before the first INIT.
  Safe: no element changes, as the rule says. -/
  | notInitialised
  /-- `refuse(downcnt_out_of_range)` (40_gate_timer.md R106): raised by a tick service outside the invariant, a state
  no run reaches. Safe: no element changes, as the rule says. -/
  | downcntOutOfRange
  deriving DecidableEq, Repr

/-- Why an event is refused. -/
inductive Refusal where
  /-- No meaning yet for the instruction. Raised by no arm: every instruction has its meaning. Safe: a stop. -/
  | notModelled (mnemonic : String)
  /-- One of the spec's own verdicts. Raised by the meanings as `Verdict` says; the step records it and goes on to
  the next event (log 3). Safe: no element changes. -/
  | verdict (v : Verdict)
  deriving DecidableEq, Repr

/-- The state between two events. The first nine fields are S0 to S8 of 10_state.md R32, in that order; a 1-bit
element is a Bool, true for 1 (log 17). -/
structure State where
  /-- S0 DOWNCNT, the gate downcounter (R22). -/
  downcnt : DownWord
  /-- S1 RAW, the hardware edge counter (R23). -/
  raw : CntWord
  /-- S2 OVFACC, the overflow accumulator (R24). -/
  ovfacc : AccWord
  /-- S3 DUTY, the duty-cycle register (R26). -/
  duty : DutyWord
  /-- S4 RANGE: 1 is the high range (R27, R80). -/
  range : Bool
  /-- S5 PWMCNT, the free-running counter (R28). -/
  pwmcnt : PwmWord
  /-- S6 PWM_OUT, the pin latch: 1 is high (R29, R80). -/
  pwmOut : Bool
  /-- S7 OVF_PEND, the overflow request (R30). -/
  ovfPend : Bool
  /-- S8 TICK_PEND, the tick request (R31). -/
  tickPend : Bool
  /-- The model's own: has an INIT happened (70_reset_and_hazards.md R242; log 4). -/
  initialised : Bool
  /-- The model's own: the event words still to come, the next one first (30_encoding.md R70; log 1). -/
  events : List Byte
  /-- The model's own: the verdicts recorded so far, oldest first (30_encoding.md R76; log 3). -/
  refusals : List Verdict
  deriving DecidableEq, Repr

/-- The machine right after reset: "Reset is INIT … the state 'after reset' is the state after INIT"
(70_reset_and_hazards.md R241, 10_state.md R34). PWMCNT and PWM_OUT have no value there; the model names 0 and low
(log 5). No event has arrived and nothing has been refused. -/
def State.reset : State :=
  { downcnt := 200#8, raw := 0#16, ovfacc := 0#32, duty := 0#8, range := false, pwmcnt := 0#8, pwmOut := false
    ovfPend := false, tickPend := false, initialised := true, events := [], refusals := [] }

/-- The machine at power-on, before the first INIT: every element is a draw (70_reset_and_hazards.md R240; log 6). -/
def State.powerOn (events : List Byte) : State :=
  { downcnt := Config.draw 8 0, raw := Config.draw 16 1, ovfacc := Config.draw 32 2, duty := Config.draw 8 3
    range := Config.draw 1 4 == 1#1, pwmcnt := Config.draw 8 5, pwmOut := Config.draw 1 6 == 1#1
    ovfPend := Config.draw 1 7 == 1#1, tickPend := Config.draw 1 8 == 1#1
    initialised := false, events, refusals := [] }

/-- One outcome of this machine. -/
abbrev Result := Host.Outcome State Fault Refusal

end Sys2Proof.Machine
end

