-- ==== Sys2Proof/Machine/Operands.lean ====
section
/-! DEFINITION. The values that operations take. No operation has an operand (30_encoding.md R73): every value comes
from an element, read whole and without a side effect (20_memory.md R52), or from the configuration. -/

namespace Sys2Proof.Machine

/-- RAW zero-extended to ACC_BITS for the sum of 41_pulse_counter.md R126. -/
def zextCount (r : CntWord) : AccWord := r.setWidth 32

/-- The effective pulse count `EFF = trunc_ACC_BITS(OVFACC + RAW)` (41_pulse_counter.md R126, 10_state.md R25). -/
def State.effectiveCount (s : State) : AccWord := s.ovfacc + zextCount s.raw

/-- The overflow quantum as an accumulator value (00_scope.md R6). -/
def quantumWord (p : Params) : AccWord := BitVec.ofNat 32 p.quantum

/-- The gate constant as a downcounter value (00_scope.md R4). -/
def gateWord (p : Params) : DownWord := BitVec.ofNat 8 p.gateTicks

/-- What the comparator would give now, `pwm_cmp = (PWMCNT ≤ DUTY)`: low exactly when the counter exceeds the duty
(43_pwm_output.md R162, R163). -/
def State.pwmCmp (s : State) : Bool := if s.pwmcnt.toNat > s.duty.toNat then false else true

/-- Whether DOWNCNT lies in `[1, GATE_TICKS]`, what SVC.TICK requires (40_gate_timer.md R102, R106). -/
def State.downcntInRange (p : Params) (s : State) : Bool := 1 ≤ s.downcnt.toNat && s.downcnt.toNat ≤ p.gateTicks

end Sys2Proof.Machine
end

