-- ==== Sys2Proof/Machine/Flags.lean ====
section
/-! DEFINITION. The three 1-bit flags (10_state.md R41): how OVF_PEND and TICK_PEND are set and cleared, and the
interrupt line. RANGE is computed by the classifier (Machine/Classifier.lean). There are no condition codes. -/

namespace Sys2Proof.Machine

/-- TICK_PEND <- 1; sticky when already 1 (40_gate_timer.md R100, R101). -/
def State.raiseTick (s : State) : State := { s with tickPend := true }

/-- TICK_PEND <- 0, by its own sub-handler (40_gate_timer.md R102, 60_exceptions.md R203). -/
def State.clearTick (s : State) : State := { s with tickPend := false }

/-- OVF_PEND <- 1; sticky when already 1 (41_pulse_counter.md R120, R122). -/
def State.raiseOvf (s : State) : State := { s with ovfPend := true }

/-- OVF_PEND <- 0, by its own sub-handler (41_pulse_counter.md R124, 60_exceptions.md R203). -/
def State.clearOvf (s : State) : State := { s with ovfPend := false }

/-- `irq = OVF_PEND OR TICK_PEND` (10_state.md R38, 60_exceptions.md R202). -/
def State.irq (s : State) : Bool := s.ovfPend || s.tickPend

end Sys2Proof.Machine
end

