-- ==== Sys2Proof/Machine/Ops.lean ====
section
/-! DEFINITION. The shared operations: fetching the next event, recording a verdict, the check that INIT has
happened, and taking an interrupt (which source a service serves). -/

namespace Sys2Proof.Machine

/-- The next event word and the state with that word taken off the queue; none when no event has arrived
(30_encoding.md R70; log 1). -/
def State.fetch (s : State) : Option (Byte × State) :=
  match s.events with
  | [] => none
  | w :: rest => some (w, { s with events := rest })

/-- No event has arrived: "what it does next is decided by which event arrives" (10_state.md R21), so nothing
changes (log 2). -/
def idle (s : State) : Result := .next s

/-- The event word put at the front of the queue, the place the next fetch reads. -/
def State.arrive (w : Byte) (s : State) : State := { s with events := w :: s.events }

/-- "The model records the refusal" and no element changes (30_encoding.md R76, 00_scope.md R10). -/
def State.record (v : Verdict) (s : State) : State := { s with refusals := s.refusals ++ [v] }

/-- A meaning's answer as the step gives it: a verdict is recorded and the run goes on with the next event, as trace
P9 of 95_test_vectors.md does (log 3); every other answer stands. -/
def settle (s : State) (r : Result) : Result :=
  match r with
  | .refused (.verdict v) => .next (s.record v)
  | other => other

/-- A reserved word: `refuse(reserved_word)`, never a guessed operation (30_encoding.md R76). -/
def refuseWord (_ : Reject) : Result := .refused (.verdict .reservedWord)

/-- Every event but INIT is refused before the first INIT (70_reset_and_hazards.md R242). -/
def whenInitialised (s : State) (r : Result) : Result :=
  if s.initialised then r else .refused (.verdict .notInitialised)

/-- The two interrupt sources (60_exceptions.md R202). -/
inductive Source where
  /-- the pulse-counter overflow -/
  | overflow
  /-- the gate tick -/
  | tick
  deriving DecidableEq, Repr

/-- Taking an interrupt: the one source this service serves, the overflow before the tick (60_exceptions.md R204,
45_service_and_init.md R180; log 9). Nothing is saved, no mask changes, and the return restores nothing
(60_exceptions.md R206, R208). -/
def State.pendingSource (s : State) : Option Source :=
  if s.ovfPend then some .overflow else if s.tickPend then some .tick else none

end Sys2Proof.Machine
end

