-- ==== Sys2Proof/Machine/OutputGenerator.lean ====
section
/-! DEFINITION. The output generator: PWMCLK and SAMPLE (43_pwm_output.md). -/

namespace Sys2Proof.Machine

/-- PWMCNT counts one up, modulo `2^PWM_BITS` (R160). -/
def State.incPwm (s : State) : State := { s with pwmcnt := s.pwmcnt + 1 }

/-- PWMCLK: one count of the free-running counter, and nothing else (R160, R161; log 14). -/
def execPwmclk (s : State) : Result := whenInitialised s <| .next s.incPwm

/-- The pin latch written (R162). -/
def State.setPin (level : Bool) (s : State) : State := { s with pwmOut := level }

/-- SAMPLE: drive the pin low when PWMCNT exceeds DUTY, high otherwise (R162). -/
def execSample (s : State) : Result := whenInitialised s <| .next (s.setPin s.pwmCmp)

end Sys2Proof.Machine
end

