-- ==== Sys2Proof/Machine/Classifier.lean ====
section
/-! DEFINITION. CLASSIFY, the pure function from a latched count to a duty and a range (42_classifier.md R140). -/

namespace Sys2Proof.Machine

/-- The comparator: high range exactly when `count ≥ THRESHOLD`, unsigned, inclusive, no hysteresis (R141). -/
def isHighRange (p : Params) (count : AccWord) : Bool := decide (p.threshold ≤ count.toNat)

/-- The multiplexer: `DIV_HIGH` in the high range, `DIV_LOW` in the low range (R143). -/
def divisorFor (p : Params) (high : Bool) : Nat := if high then p.divHigh else p.divLow

/-- `q = count div d`, unsigned floor division (R144). -/
def quotient (p : Params) (count : AccWord) : Nat := count.toNat / divisorFor p (isHighRange p count)

/-- CLASSIFY(count) = (duty, range): the low 8 bits of the quotient, no clamp (R140, R145; log 10). -/
def classify (p : Params) (count : AccWord) : DutyWord × Bool :=
  (BitVec.ofNat 8 (quotient p count), isHighRange p count)

end Sys2Proof.Machine
end

