-- ==== Sys2Proof/Machine/GateTimer.lean ====
section
/-! DEFINITION. The gate timer: TICK, SVC.TICK and GATE_CLOSE (40_gate_timer.md). -/

namespace Sys2Proof.Machine

/-- TICK: request a tick service and nothing else (R100, R101). -/
def execTick (s : State) : Result := whenInitialised s <| .next s.raiseTick

/-- The count cleared: RAW <- 0, OVFACC <- 0 (R104). -/
def State.clearCount (s : State) : State := { s with raw := 0#16, ovfacc := 0#32 }

/-- DUTY and RANGE written together, from one classification (R104, 20_memory.md R57, 42_classifier.md R150;
log 11). -/
def State.publish (result : DutyWord × Bool) (s : State) : State := { s with duty := result.1, range := result.2 }

/-- DOWNCNT written (R102, R104). -/
def State.setDowncnt (d : DownWord) (s : State) : State := { s with downcnt := d }

/-- GATE_CLOSE: latch the count, clear it, classify and publish it, reload the downcounter (R104). -/
def State.gateClose (p : Params) (s : State) : State :=
  let count := s.effectiveCount
  (s.clearCount.publish (classify p count)).setDowncnt (gateWord p)

/-- SVC.TICK, the gate-tick sub-handler (R102). A downcounter outside `[1, GATE_TICKS]` is refused and changes
nothing (R106; log 21). -/
def svcTick (p : Params) (s : State) : Result :=
  if s.downcntInRange p then
    let t := s.clearTick
    let d := s.downcnt - 1
    .next (if d = 0 then t.gateClose p else t.setDowncnt d)
  else .refused (.verdict .downcntOutOfRange)

end Sys2Proof.Machine
end

