-- ==== Sys2Proof/Machine/PulseCounter.lean ====
section
/-! DEFINITION. The pulse counter: PULSE and SVC.OVF (41_pulse_counter.md). -/

namespace Sys2Proof.Machine

/-- RAW counts one edge up, modulo `2^CNT_BITS` (R120). -/
def State.incRaw (s : State) : State := { s with raw := s.raw + 1 }

/-- PULSE: count the edge, and request an overflow service when RAW has wrapped to 0 (R120, R122). -/
def execPulse (s : State) : Result :=
  whenInitialised s <|
    let t := s.incRaw
    .next (if t.raw = 0 then t.raiseOvf else t)

/-- `OVFACC <- trunc_ACC_BITS(OVFACC + QUANTUM)` (R124, R125). -/
def State.addQuantum (p : Params) (s : State) : State := { s with ovfacc := s.ovfacc + quantumWord p }

/-- SVC.OVF, the overflow sub-handler: clear the request, add the quantum (R124). -/
def svcOvf (p : Params) (s : State) : Result := .next (s.clearOvf.addQuantum p)

end Sys2Proof.Machine
end

