-- ==== Sys2Proof/Machine/Service.lean ====
section
/-! DEFINITION. Interrupt service and initialisation: SVC and INIT (45_service_and_init.md). -/

namespace Sys2Proof.Machine

/-- SVC's dispatch: the sub-handler of the one source served, run to completion; no change when nothing is pending
(R180, R181, R184). -/
def service (p : Params) (s : State) : Result :=
  match s.pendingSource with
  | some .overflow => svcOvf p s
  | some .tick => svcTick p s
  | none => .next s

/-- SVC: one interrupt service (R180). -/
def execSvc (s : State) : Result := whenInitialised s <| service Config.params s

/-- The seven elements at their reset values; PWMCNT and PWM_OUT are not written (R186, R188; log 13). -/
def State.initElements (p : Params) (s : State) : State :=
  { s with
    downcnt := gateWord p, raw := 0#16, ovfacc := 0#32, duty := 0#8, range := false, ovfPend := false
    tickPend := false }

/-- From here on the other events run (70_reset_and_hazards.md R242). -/
def State.markInitialised (s : State) : State := { s with initialised := true }

/-- INIT: the host's initialisation call, the same whether first or repeated (R186, R187). -/
def execInit (s : State) : Result := .next (s.initElements Config.params).markInitialised

end Sys2Proof.Machine
end

