-- ==== Sys2Proof/Machine/Dispatch.lean ====
section
/-! DEFINITION. The dispatch: one arm per constructor of Instr, each one call of that instruction's meaning. -/

namespace Sys2Proof.Machine

/-- The meaning of an event (30_encoding.md R72). -/
def exec (i : Instr) (s : State) : Host.Outcome State Fault Refusal :=
  match i with
  | .init => Sys2Proof.Machine.execInit s
  | .pulse => Sys2Proof.Machine.execPulse s
  | .tick => Sys2Proof.Machine.execTick s
  | .pwmclk => Sys2Proof.Machine.execPwmclk s
  | .sample => Sys2Proof.Machine.execSample s
  | .svc => Sys2Proof.Machine.execSvc s

end Sys2Proof.Machine
end

