-- ==== Sys2Proof/Machine/Step.lean ====
section
/-! DEFINITION. One step: the next event word is fetched, decoded and performed (00_scope.md R7, 30_encoding.md R70). -/

namespace Sys2Proof.Machine

/-- A fetched word performed in the state without it: the meaning of its operation, or the reserved word's refusal. -/
def performWord (w : Byte) (s : State) : Host.Outcome State Fault Refusal :=
  match decode w with
  | .ok i => exec i s
  | .error e => refuseWord e

/-- One step of the machine: the next event, whichever agent's it is, as one atomic step (00_scope.md R7). -/
def step (s : State) : Host.Outcome State Fault Refusal :=
  match s.fetch with
  | none => idle s
  | some (w, t) => settle t (performWord w t)

/-- The instruction's word made the next event to arrive. This is how a program comes to run (log 1): its words
arrive from outside, and this stands for the arrival of one. -/
def State.withFetchWord (s : State) (nbits w : Nat) : State := s.arrive (tableWord nbits w)

end Sys2Proof.Machine
end

