-- ==== Sys2Proof/Machine/Signals.lean ====
section
/-! DEFINITION. What the outside sees and who acts: the output signals (10_state.md R38), the agent (00_scope.md R7),
the input signal (10_state.md R39) and the execution context (60_exceptions.md R212) of each event. -/

namespace Sys2Proof.Machine

/-- The three output signals, functions of the state (R38). -/
structure Signals where
  /-- Output A, the range indicator. -/
  rangeOut : Bool
  /-- Output B, the pulse-width-modulated pin. -/
  pwmOut : Bool
  /-- The one interrupt line. -/
  irq : Bool
  deriving DecidableEq, Repr

/-- What an observer outside the block sees of a state (00_scope.md R8, 10_state.md R38). -/
def State.signals (s : State) : Signals := { rangeOut := s.range, pwmOut := s.pwmOut, irq := s.irq }

/-- The five agents (00_scope.md R7). -/
inductive Agent where
  /-- the external input signal -/
  | signalSource
  /-- the periodic tick -/
  | tickSource
  /-- the clock of the free-running counter -/
  | pwmClock
  /-- the dispatch loop -/
  | host
  /-- the interrupt handler -/
  | serviceSequencer
  deriving DecidableEq, Repr

/-- The agent whose event an operation is (00_scope.md R7). -/
def agentOf : Instr → Agent
  | .init => .host
  | .pulse => .signalSource
  | .tick => .tickSource
  | .pwmclk => .pwmClock
  | .sample => .host
  | .svc => .serviceSequencer

/-- What an input signal does to be seen as an event (10_state.md R39). Which edge of `sig_in` counts is not
modelled (log 16). -/
inductive InputSignal where
  /-- `sig_in`: one counted edge -/
  | sigIn
  /-- `tick_in`: one fire -/
  | tickIn
  /-- `pwm_clk`: one count -/
  | pwmClk
  /-- the host's initialisation call -/
  | hostInitCall
  /-- the host's `generate_output_sample()` call -/
  | hostSampleCall
  deriving DecidableEq, Repr

/-- The event that an input signal causes (10_state.md R39). -/
def InputSignal.event : InputSignal → Instr
  | .sigIn => .pulse
  | .tickIn => .tick
  | .pwmClk => .pwmclk
  | .hostInitCall => .init
  | .hostSampleCall => .sample

/-- The two execution contexts of the source, and the hardware outside both (60_exceptions.md R212, 20_memory.md R58). -/
inductive Context where
  /-- the handler -/
  | interrupt
  /-- the host's loop -/
  | dispatchLoop
  /-- neither: an event of the hardware -/
  | hardware
  deriving DecidableEq, Repr

/-- The context an event happens in; it is no state of the block (60_exceptions.md R212). -/
def contextOf : Instr → Context
  | .init => .dispatchLoop
  | .pulse => .hardware
  | .tick => .hardware
  | .pwmclk => .hardware
  | .sample => .dispatchLoop
  | .svc => .interrupt

end Sys2Proof.Machine
end

