-- ==== Sys2Proof/Machine/Trace.lean ====
section
/-! DEFINITION. The trace syntax of 30_encoding.md R78 and R79: traces with the pseudo-instructions REP and TICKSVC,
their expansion to bytes, the assembler of trace text and the disassembler of a word (log 24). -/

namespace Sys2Proof.Machine

/-- A trace as it is written (R78, R79). -/
inductive Trace where
  /-- nothing -/
  | nil
  /-- one event, written by its mnemonic -/
  | event (i : Instr)
  /-- one word given as a byte: `.byte 0xHH` -/
  | byte (w : Byte)
  /-- `TICKSVC` -/
  | tickSvc
  /-- `REP n` and a body -/
  | rep (n : Nat) (body : Trace)
  /-- one part after another -/
  | seq (first second : Trace)
  deriving DecidableEq, Repr

/-- The bytes a trace stands for; the expansion "does not depend on the state" (R79). -/
def Trace.expand : Trace → List Byte
  | .nil => []
  | .event i => [encode i]
  | .byte w => [w]
  | .tickSvc => [encode .tick, encode .svc]
  | .rep n body => (List.replicate n body.expand).flatten
  | .seq first second => first.expand ++ second.expand

/-- One hexadecimal digit, upper case. -/
def hexDigit (n : Nat) : Char := if n < 10 then Char.ofNat (48 + n) else Char.ofNat (55 + n)

/-- The value of a hexadecimal digit, either case. -/
def hexValue (c : Char) : Option Nat :=
  let n := c.toNat
  if 48 ≤ n ∧ n ≤ 57 then some (n - 48)
  else if 65 ≤ n ∧ n ≤ 70 then some (n - 55)
  else if 97 ≤ n ∧ n ≤ 102 then some (n - 87)
  else none

/-- The value of a decimal digit. -/
def decimalValue (c : Char) : Option Nat := if 48 ≤ c.toNat ∧ c.toNat ≤ 57 then some (c.toNat - 48) else none

/-- The disassembler: a word's mnemonic, or `.byte 0xHH` for a reserved word (R78). -/
def disassemble (w : Byte) : List Char :=
  match decode w with
  | .ok i => i.mnemonic.toList
  | .error _ => ".byte 0x".toList ++ [hexDigit (w.toNat / 16), hexDigit (w.toNat % 16)]

/-- The tokens of trace text: words, separators (a line's end or `;`), the two braces (R78, R79). -/
inductive Token where
  /-- a run of other characters -/
  | word (cs : List Char)
  /-- the end of a line, or `;` -/
  | sep
  /-- the opening brace -/
  | openBrace
  /-- the closing brace -/
  | closeBrace
  deriving DecidableEq, Repr

/-- The word collected so far, as a token in front of the rest. -/
def endWord (acc : List Char) (rest : List Token) : List Token :=
  if acc.isEmpty then rest else .word acc.reverse :: rest

/-- The tokens of a text; `acc` holds the word being read, last character first, and `skip` says that a comment is
being skipped: `#` starts one, the end of the line ends it (R78). -/
def tokenize : (text acc : List Char) → (skip : Bool) → List Token
  | [], acc, _ => endWord acc []
  | c :: cs, acc, skip =>
    if c = '\n' then endWord acc (.sep :: tokenize cs [] false)
    else if skip then tokenize cs [] true
    else if c = '#' then endWord acc (tokenize cs [] true)
    else if c = ';' then endWord acc (.sep :: tokenize cs [] false)
    else if c = Char.ofNat 123 then endWord acc (.openBrace :: tokenize cs [] false)
    else if c = Char.ofNat 125 then endWord acc (.closeBrace :: tokenize cs [] false)
    else if c = ' ' ∨ c = '\t' ∨ c = '\r' then endWord acc (tokenize cs [] false)
    else tokenize cs (c :: acc) false

/-- The operation of a mnemonic, upper case (R72, R78). -/
def instrOfMnemonic (cs : List Char) : Option Instr :=
  (opcodeMap.find? (fun r => r.instr.mnemonic.toList == cs)).map OpcodeRow.instr

/-- A decimal number of at least one digit. -/
def parseDecimal (cs : List Char) : Option Nat :=
  if cs.isEmpty then none
  else cs.foldl (fun acc c => acc.bind fun n => (decimalValue c).map fun d => 10 * n + d) (some 0)

/-- The byte of a word `0xHH`. -/
def parseByte (cs : List Char) : Option Byte :=
  match cs with
  | ['0', 'x', h, l] => (hexValue h).bind fun hi => (hexValue l).map fun lo => BitVec.ofNat 8 (16 * hi + lo)
  | _ => none

/-- What the parser may read next. -/
inductive Expect where
  /-- an event or a pseudo-instruction -/
  | item
  /-- a separator or a closing brace -/
  | endOfItem
  /-- the count of a REP -/
  | repCount
  /-- the opening brace of a REP of this count -/
  | repBody (n : Nat)
  /-- the argument of `.byte` -/
  | byteArg
  deriving DecidableEq, Repr

/-- The parser: `open_` holds the count of each REP being read and the trace before it, `cur` the trace read so far at
this level. None on text that is not a trace (R78, R79). DESIGN CHOICE (log 24), since R78 and R79 are silent: empty
items are allowed (`;;`, a leading or trailing `;`, also inside a body), and no line's end or `;` may stand between REP,
its count and the opening brace, nor between `.byte` and its argument. -/
def parseTokens : List Token → (next : Expect) → (open_ : List (Nat × Trace)) → (cur : Trace) → Option Trace
  | [], .item, [], cur => some cur
  | [], .endOfItem, [], cur => some cur
  | [], _, _, _ => none
  | .sep :: ts, .item, st, cur => parseTokens ts .item st cur
  | .sep :: ts, .endOfItem, st, cur => parseTokens ts .item st cur
  | .closeBrace :: ts, .item, (n, before) :: st, cur => parseTokens ts .endOfItem st (.seq before (.rep n cur))
  | .closeBrace :: ts, .endOfItem, (n, before) :: st, cur => parseTokens ts .endOfItem st (.seq before (.rep n cur))
  | .openBrace :: ts, .repBody n, st, cur => parseTokens ts .item ((n, cur) :: st) .nil
  | .word cs :: ts, .repCount, st, cur => (parseDecimal cs).bind fun n => parseTokens ts (.repBody n) st cur
  | .word cs :: ts, .byteArg, st, cur => (parseByte cs).bind fun w => parseTokens ts .endOfItem st (.seq cur (.byte w))
  | .word cs :: ts, .item, st, cur =>
    if cs = "REP".toList then parseTokens ts .repCount st cur
    else if cs = ".byte".toList then parseTokens ts .byteArg st cur
    else if cs = "TICKSVC".toList then parseTokens ts .endOfItem st (.seq cur .tickSvc)
    else (instrOfMnemonic cs).bind fun i => parseTokens ts .endOfItem st (.seq cur (.event i))
  | _ :: _, _, _, _ => none

/-- The trace a text spells. -/
def parseTrace (text : List Char) : Option Trace := parseTokens (tokenize text [] false) .item [] .nil

/-- The assembler: the bytes of a trace's text (R78, R79). -/
def assembleText (text : List Char) : Option (List Byte) := (parseTrace text).map Trace.expand

end Sys2Proof.Machine
end

