-- ==== Sys2Proof/Safety.lean ====
section
/-! DEFINITION. The terms claims use: runs of events, what is counted along a run, the invariant of every state
between events, and the environment's duties as named premises (70_reset_and_hazards.md R246, 45_service_and_init.md
R183), never enforced by the machine. -/

namespace Sys2Proof.Machine

/-- The state after one event, a refused one included (it is recorded and changes no element). -/
def perform (i : Instr) (s : State) : State :=
  match settle s (exec i s) with
  | .next t => t
  | _ => s

/-- The state after a sequence of events (00_scope.md R8). -/
def State.after (s : State) (t : List Instr) : State := t.foldl (fun u i => perform i u) s

/-- The state after n events of an endless run (00_scope.md R8: a run may be infinite). -/
def stateAt (e : Nat → Instr) (s : State) : Nat → State
  | 0 => s
  | n + 1 => perform (e n) (stateAt e s n)

/-- A sum along a run: `f` of each event and the state before it. -/
def tally (f : Instr → State → Nat) : State → List Instr → Nat
  | _, [] => 0
  | s, i :: t => f i s + tally f (perform i s) t

/-- The event is an SVC that runs SVC.TICK (40_gate_timer.md R102). -/
def servesTick (i : Instr) (s : State) : Bool :=
  i == .svc && s.initialised && !s.ovfPend && s.tickPend && s.downcntInRange Config.params

/-- The event is an SVC that closes the gate (40_gate_timer.md R104). -/
def closesGate (i : Instr) (s : State) : Bool := servesTick i s && s.downcnt == 1#8

/-- The event is a PULSE that wraps RAW (41_pulse_counter.md R120). -/
def wrapsRaw (i : Instr) (s : State) : Bool := i == .pulse && s.initialised && s.raw == 0xFFFF#16

/-- How many ticks a run serves. -/
def ticksServed (s : State) (t : List Instr) : Nat := tally (fun i u => (servesTick i u).toNat) s t

/-- How many gate closures a run has. -/
def gateClosures (s : State) (t : List Instr) : Nat := tally (fun i u => (closesGate i u).toNat) s t

/-- The sum of the counts latched at a run's gate closures (41_pulse_counter.md R128). -/
def latchedTotal (s : State) (t : List Instr) : Nat :=
  tally (fun i u => if closesGate i u then u.effectiveCount.toNat else 0) s t

/-- The pin's level right after each SAMPLE of a run, in order. -/
def sampledLevels : State → List Instr → List Bool
  | _, [] => []
  | s, i :: t =>
    if i = .sample then (perform i s).pwmOut :: sampledLevels (perform i s) t else sampledLevels (perform i s) t

/-- The true count `OVFACC + QUANTUM × OVF_PEND + RAW` over the integers (10_state.md R37). -/
def State.trueCount (s : State) : Nat :=
  s.ovfacc.toNat + Config.params.quantum * s.ovfPend.toNat + s.raw.toNat

/-- One half of the environment's duty of 70_reset_and_hazards.md R246: an SVC.OVF between any two wraps of RAW, that
is, no wrap while an overflow is pending. -/
def wrapsServedInTime : State → List Instr → Bool
  | _, [] => true
  | s, i :: t => !(wrapsRaw i s && s.ovfPend) && wrapsServedInTime (perform i s) t

/-- The other half (R246): an SVC.TICK between any two TICK events, that is, no TICK while a tick is pending. -/
def ticksServedInTime : State → List Instr → Bool
  | _, [] => true
  | s, i :: t => !(i == .tick && s.tickPend) && ticksServedInTime (perform i s) t

/-- Whether the request bit of a source is 1 (60_exceptions.md R202). -/
def State.requests (s : State) : Source → Bool
  | .overflow => s.ovfPend
  | .tick => s.tickPend

/-- The event is an SVC that runs SVC.OVF (41_pulse_counter.md R124). -/
def servesOverflow (i : Instr) (s : State) : Bool := i == .svc && s.initialised && s.ovfPend

/-- The event is a service of that source, its sub-handler run to completion (45_service_and_init.md R181). -/
def serves (src : Source) (i : Instr) (s : State) : Bool :=
  match src with
  | .overflow => servesOverflow i s
  | .tick => servesTick i s

/-- Progress along an endless run, for each source on its own: "a pending bit that stays 1 is eventually served"
(45_service_and_init.md R183). A bit that INIT clears asks for nothing. The wait is finite and has no bound
(93_implementation_defined.md U20; log 20). -/
def WeaklyFair (e : Nat → Instr) (s : State) : Prop :=
  ∀ (src : Source) (n : Nat), (∀ m, n ≤ m → (stateAt e s m).requests src = true) →
    ∃ m, n ≤ m ∧ serves src (e m) (stateAt e s m) = true

/-- Weak fairness of the one operation SVC (92_eei_decisions.md D26): if `irq` stays 1, an SVC comes. It is weaker than
`WeaklyFair`, since every SVC could find an overflow to serve while a tick waits. -/
def ServiceFair (e : Nat → Instr) (s : State) : Prop :=
  ∀ n, (∀ m, n ≤ m → (stateAt e s m).irq = true) → ∃ m, n ≤ m ∧ e m = .svc

/-- What holds between events once INIT has happened: DOWNCNT in `[1, GATE_TICKS]` (10_state.md R35), OVFACC a
multiple of the quantum (R36), DUTY and RANGE from one count (42_classifier.md R150). -/
def Inv (s : State) : Prop :=
  s.initialised = true →
    (1 ≤ s.downcnt.toNat ∧ s.downcnt.toNat ≤ 200) ∧ s.ovfacc.toNat % 65536 = 0 ∧
      ∃ count : AccWord, classify Config.params count = (s.duty, s.range)

/-- A safe state: no event so far was refused (00_scope.md R10). -/
def State.safe (s : State) : Bool := s.refusals.isEmpty

end Sys2Proof.Machine
end

