-- ==== Sys2Proof/Certificates/Slice0/Obligations.lean ====
section
/-! DEFINITION. The statements for the provers. Numbers are written out (200, 65536, 102000, 4000, 400), not taken
from the configuration, so that a wrong configuration makes a statement false. Widths 8, 16 and 32 are the spec's
default parameters (log 7). "log n" is notes/assumptions/n.md; "D n" is a row of 92_eei_decisions.md. -/

open Sys2Proof Sys2Proof.Machine

/-! ### Encoding -/

/-- The six words of 30_encoding.md's opcode map, written out bit by bit, decode to their operations, and the reserved
neighbours of 95_test_vectors.md 2.1 are rejected. The encoding is the spec's own choice, D17 (log 18). -/
def Obligations.SixWordsDecodeAsTheOpcodeMapSays : Prop :=
  decode 0b00000001#8 = .ok .init ∧ decode 0b00000010#8 = .ok .pulse ∧ decode 0b00000011#8 = .ok .tick ∧
  decode 0b00000100#8 = .ok .pwmclk ∧ decode 0b00000101#8 = .ok .sample ∧ decode 0b00000110#8 = .ok .svc ∧
  decode 0x00#8 = .error .reservedOp ∧ decode 0x07#8 = .error .reservedOp ∧
  decode 0x08#8 = .error .reservedBitsSet ∧ decode 0x0A#8 = .error .reservedBitsSet ∧
  decode 0x82#8 = .error .reservedBitsSet ∧ decode 0xFF#8 = .error .reservedBitsSet

/-- A word decodes to an operation exactly when it is that operation's word: no two words spell one operation and no
bit of a word is dropped. The encoding is D17 (log 18). -/
def Obligations.WordDecodesExactlyToItsOperation : Prop :=
  ∀ (w : Byte) (i : Instr), decode w = .ok i ↔ w = encode i

/-- A word is rejected exactly when a bit of 7:3 is set or bits 2:0 are 0 or 7, and 250 of the 256 words are
(30_encoding.md section 3; D17, D18, log 18). -/
def Obligations.ReservedWordsAreExactlyTheOther250 : Prop :=
  (∀ w : Byte, (∃ e, decode w = .error e) ↔ w.toNat / 8 ≠ 0 ∨ w.toNat % 8 = 0 ∨ w.toNat % 8 = 7) ∧
  ((List.range 256).filter fun n => decodeTableWord 8 n = none).length = 250

/-- Decode and encode agree on whole traces: a sequence of bytes decodes to a sequence of events exactly when it is
that sequence's assembly, one byte per event in order (30_encoding.md section 1; D17, log 18). -/
def Obligations.TraceDecodesExactlyToItsAssembly : Prop :=
  ∀ (ws : List Byte) (t : List Instr), decodeTrace ws = .ok t ↔ ws = assemble t

/-- Trace text: P1 of 95_test_vectors.md assembles to the bytes printed there; REP of any body is that body written n
times and TICKSVC is `03 06`; the disassembler gives each operation's word its mnemonic and every rejected word w
`.byte 0x` and the two hexadecimal digits of w (30_encoding.md section 5; D29; the digits' upper case is log 24). -/
def Obligations.TraceTextAssemblesToItsBytes : Prop :=
  assembleText
      "INIT\nPULSE ; PULSE ; PULSE\nTICK ; SVC\nTICK ; TICK ; SVC        # second tick merged: rule R101\n".toList =
    some [0x01#8, 0x02#8, 0x02#8, 0x02#8, 0x03#8, 0x06#8, 0x03#8, 0x03#8, 0x06#8] ∧
  (∀ (n : Nat) (body : Trace), (Trace.rep n body).expand = (List.replicate n body.expand).flatten) ∧
  Trace.tickSvc.expand = [0x03#8, 0x06#8] ∧
  [0x01#8, 0x02#8, 0x03#8, 0x04#8, 0x05#8, 0x06#8].map disassemble =
    ["INIT".toList, "PULSE".toList, "TICK".toList, "PWMCLK".toList, "SAMPLE".toList, "SVC".toList] ∧
  (∀ (w : Byte) (e : Reject), decode w = .error e →
    disassemble w = ".byte 0x".toList ++
      [("0123456789ABCDEF".toList.getD (w.toNat / 16) ' '), ("0123456789ABCDEF".toList.getD (w.toNat % 16) ' ')])

/-! ### The step -/

/-- When the next word decodes to `i`, the step takes that word off the queue and answers as `exec i` does there; a
verdict of `exec` is recorded and the run goes on (log 1, log 3). -/
def Obligations.StepRunsTheDecodedEvent : Prop :=
  ∀ (s : State) (w : Byte) (rest : List Byte) (i : Instr), s.events = w :: rest → decode w = .ok i →
    (∀ t, exec i { s with events := rest } = .next t → step s = .next t) ∧
    (∀ v, exec i { s with events := rest } = .refused (.verdict v) →
      step s = .next { s with events := rest, refusals := s.refusals ++ [v] })

/-- A reserved word is recorded as refused and changes no element (30_encoding.md section 3; D18; going on after a
refusal is log 3). -/
def Obligations.ReservedWordIsRecordedAndChangesNothing : Prop :=
  ∀ (s : State) (w : Byte) (rest : List Byte) (e : Reject), s.events = w :: rest → decode w = .error e →
    step s = .next { s with events := rest, refusals := s.refusals ++ [.reservedWord] }

/-- With no event to come nothing changes: the model's choice, log 2. -/
def Obligations.NoEventNoChange : Prop :=
  ∀ s : State, s.events = [] → step s = .next s

/-- The block never stops: "There is no halt, no final state and no end of a run" (00_scope.md section 3) and no
exception (60_exceptions.md section 1). That refused words are recorded and passed over is log 3. -/
def Obligations.EveryStepAnswersANextState : Prop :=
  ∀ s : State, ∃ t, step s = .next t

/-- Running a queue that spells `t` is performing the events of `t` in order, and leaves the words behind it in the
queue (30_encoding.md section 1; log 1). -/
def Obligations.RunOfAnAssembledTraceIsItsEventsInOrder : Prop :=
  ∀ (s : State) (t : List Instr) (rest : List Byte),
    Host.Core.run Sys2Proof.core t.length { s with events := assemble t ++ rest } =
      .next { s.after t with events := rest }

/-! ### INIT, reset, power-on -/

/-- Before the first INIT every other event is refused; the step records it and changes no element
(70_reset_and_hazards.md section 2; D13; the flag `initialised` and going on are log 4 and log 3). -/
def Obligations.OnlyInitRunsBeforeTheFirstInit : Prop :=
  ∀ (s : State) (i : Instr), s.initialised = false → i ≠ .init →
    exec i s = .refused (.verdict .notInitialised) ∧
    ∀ rest, s.events = encode i :: rest →
      step s = .next { s with events := rest, refusals := s.refusals ++ [.notInitialised] }

/-- INIT, from any state, first or repeated: seven elements take their reset values, PWMCNT, PWM_OUT, the queue and the
record stay (45_service_and_init.md section 2; which element gets the constant is D12 and a repeated INIT D13: log 13;
`initialised` is log 4). -/
def Obligations.InitGivesTheResetValues : Prop :=
  decode 0x01#8 = .ok .init ∧
  ∀ s : State, exec .init s = .next
    { s with downcnt := 200#8, raw := 0#16, ovfacc := 0#32, duty := 0#8, range := false, ovfPend := false
             tickPend := false, initialised := true }

/-- Reset is the state after INIT (70_reset_and_hazards.md section 1, D12). PWMCNT = 0 and PWM_OUT low at reset are the
model's choice, log 5: here they are premises. -/
def Obligations.ResetIsTheStateAfterInit : Prop :=
  ∀ s : State, s.pwmcnt = 0#8 → s.pwmOut = false → s.events = [] → s.refusals = [] →
    exec .init s = .next State.reset

/-- From power-on, whatever the draws, INIT gives the reset values and leaves the drawn PWMCNT and PWM_OUT
(70_reset_and_hazards.md section 1, vector SV6 of 95_test_vectors.md; D12, log 6). -/
def Obligations.PowerOnThenInit : Prop :=
  ∀ ws : List Byte, (State.powerOn ws).initialised = false ∧
    exec .init (State.powerOn ws) = .next
      { State.reset with pwmcnt := (State.powerOn ws).pwmcnt, pwmOut := (State.powerOn ws).pwmOut, events := ws }

/-- From INIT until 200 ticks have been served the outputs are those of reset: DUTY 0, low range, and a SAMPLE gives
high exactly at PWMCNT 0 (70_reset_and_hazards.md section 2; D12). -/
def Obligations.OutputsBeforeTheFirstClosure : Prop :=
  ∀ (s : State) (t : List Instr), Instr.init ∉ t → ticksServed (s.after [.init]) t < 200 →
    (s.after (.init :: t)).duty = 0#8 ∧ (s.after (.init :: t)).range = false ∧
    ((s.after (.init :: t ++ [.sample])).pwmOut = true ↔ (s.after (.init :: t)).pwmcnt = 0#8)

/-! ### Pulse counter -/

/-- PULSE (41_pulse_counter.md section 1): RAW counts one up modulo 2^16, OVF_PEND is set on a wrap and kept otherwise,
and nothing else changes. The width 16 is the spec's default D5 (log 7), the word is D17 (log 18), the request bit D2
(log 12). -/
def Obligations.PulseCountsOneEdge : Prop :=
  decode 0x02#8 = .ok .pulse ∧
  ∀ s : State, s.initialised = true → exec .pulse s = .next
    { s with raw := BitVec.ofNat 16 ((s.raw.toNat + 1) % 2 ^ 16)
             ovfPend := if (s.raw.toNat + 1) % 2 ^ 16 = 0 then true else s.ovfPend }

/-- A wrap while an overflow is pending: the bit stays 1, and the one service that follows adds one quantum for both
wraps (41_pulse_counter.md section 1; D4, log 12). -/
def Obligations.SecondWrapLosesOneQuantum : Prop :=
  ∀ s : State, s.initialised = true → s.ovfPend = true → s.raw = 65535#16 →
    exec .pulse s = .next { s with raw := 0#16 } ∧
    s.after [.pulse, .svc] =
      { s with raw := 0#16, ovfPend := false, ovfacc := BitVec.ofNat 32 (s.ovfacc.toNat + 65536) }

/-- SVC.OVF (41_pulse_counter.md section 2): whatever TICK_PEND is, an SVC with OVF_PEND = 1 clears it, adds the quantum
modulo 2^32 and changes nothing else. That the overflow goes before a pending tick is D3 (log 9); the widths 16 and 32
are D5 and D6 (log 7). -/
def Obligations.OverflowServiceAddsTheQuantum : Prop :=
  ∀ s : State, s.initialised = true → s.ovfPend = true → exec .svc s = .next
    { s with ovfPend := false, ovfacc := BitVec.ofNat 32 ((s.ovfacc.toNat + 65536) % 2 ^ 32) }

/-- The effective pulse count (41_pulse_counter.md section 3): the sum modulo 2^32; it is what a gate closure classifies;
and where OVFACC is a multiple of the quantum and the sum does not wrap it is the concatenation of `OVFACC / QUANTUM`
above RAW, which 10_state.md section 4 marks as derived. The widths are D5 and D6 (log 7). -/
def Obligations.EffectiveCountIsTheWideSum : Prop :=
  (∀ s : State, s.effectiveCount.toNat = (s.ovfacc.toNat + s.raw.toNat) % 2 ^ 32) ∧
  (∀ s : State, s.initialised = true → s.ovfPend = false → s.tickPend = true → s.downcnt = 1#8 →
    ∃ t, exec .svc s = .next t ∧ (t.duty, t.range) = classify Config.params s.effectiveCount) ∧
  (∀ s : State, s.ovfacc.toNat % 65536 = 0 → s.ovfacc.toNat + s.raw.toNat < 2 ^ 32 →
    s.effectiveCount = s.ovfacc.extractLsb' 16 16 ++ s.raw ∧
    s.effectiveCount.toNat = s.ovfacc.toNat + s.raw.toNat)

/-! ### Gate timer -/

/-- TICK: TICK_PEND is 1 after it, whether or not it was before, and nothing else changes (40_gate_timer.md section 1;
D2, D4, log 12; the word is D17, log 18). -/
def Obligations.TickOnlyRequestsAService : Prop :=
  decode 0x03#8 = .ok .tick ∧
  ∀ s : State, s.initialised = true → exec .tick s = .next { s with tickPend := true }

/-- Two ticks before one service decrement the downcounter once (40_gate_timer.md section 1; D4, log 12). -/
def Obligations.MergedTicksDecrementOnce : Prop :=
  ∀ s : State, s.initialised = true → s.ovfPend = false → 2 ≤ s.downcnt.toNat → s.downcnt.toNat ≤ 200 →
    s.after [.tick, .tick, .svc] =
      { s with tickPend := false, downcnt := BitVec.ofNat 8 (s.downcnt.toNat - 1) }

/-- A tick service that does not close the gate (40_gate_timer.md R103): it writes TICK_PEND and DOWNCNT and nothing
else. -/
def Obligations.TickServiceWithoutClosure : Prop :=
  ∀ s : State, s.initialised = true → s.ovfPend = false → s.tickPend = true →
    2 ≤ s.downcnt.toNat → s.downcnt.toNat ≤ 200 → exec .svc s = .next
      { s with tickPend := false, downcnt := BitVec.ofNat 8 (s.downcnt.toNat - 1) }

/-- A tick service at DOWNCNT = 1 closes the gate: the count is latched and cleared, classified, published, and the
downcounter reloaded, all in one step (40_gate_timer.md section 3; one atomic step is D1 and D21, log 11; the threshold is
D9, log 8; the truncation is D10, log 10). -/
def Obligations.GateClosureLatchesClassifiesAndReloads : Prop :=
  ∀ s : State, s.initialised = true → s.ovfPend = false → s.tickPend = true → s.downcnt = 1#8 →
    let count := (s.ovfacc.toNat + s.raw.toNat) % 2 ^ 32
    exec .svc s = .next
      { s with tickPend := false, downcnt := 200#8, raw := 0#16, ovfacc := 0#32
               duty := BitVec.ofNat 8 (if 102000 ≤ count then count / 4000 else count / 400)
               range := decide (102000 ≤ count) }

/-- A tick service with DOWNCNT outside [1, 200] is refused and changes nothing; the step records it
(40_gate_timer.md section 3; D27, log 21). -/
def Obligations.TickServiceOutOfRangeIsRefused : Prop :=
  ∀ s : State, s.initialised = true → s.ovfPend = false → s.tickPend = true →
    (s.downcnt.toNat = 0 ∨ 200 < s.downcnt.toNat) →
    exec .svc s = .refused (.verdict .downcntOutOfRange) ∧
    s.after [.svc] = { s with refusals := s.refusals ++ [.downcntOutOfRange] }

/-- The gate window: from DOWNCNT = 200, and however other events fall between, n served ticks leave the downcounter at
200 minus n mod 200 and have closed the gate n div 200 times; until the 200th DUTY and RANGE are as they were
(40_gate_timer.md section 3, an inference the spec marks as derived). -/
def Obligations.GateWindowIsTwoHundredServedTicks : Prop :=
  ∀ (s : State) (t : List Instr), s.initialised = true → s.downcnt = 200#8 → Instr.init ∉ t →
    (s.after t).downcnt.toNat = 200 - ticksServed s t % 200 ∧
    gateClosures s t = ticksServed s t / 200 ∧
    (ticksServed s t < 200 → (s.after t).duty = s.duty ∧ (s.after t).range = s.range)

/-- When every tick is served before the next fires, no tick is lost: ticks served and still pending are those fired and
pending before (70_reset_and_hazards.md section 3; D4, log 12). -/
def Obligations.TicksServedInTimeAreAllServed : Prop :=
  ∀ (s : State) (t : List Instr), Inv s → s.initialised = true → Instr.init ∉ t → ticksServedInTime s t = true →
    ticksServed s t + (s.after t).tickPend.toNat = t.count .tick + s.tickPend.toNat

/-! ### Counting over runs -/

/-- The true count `OVFACC + QUANTUM × OVF_PEND + RAW` (10_state.md section 4, derived; 90_conflicts.md C4): a PULSE raises
it by 1 unless it loses a quantum, an SVC.OVF, an SVC that does not close the gate, TICK, PWMCLK and SAMPLE leave it,
and INIT and a gate closure set it to 0. -/
def Obligations.TrueCountMovesOnlyByPulses : Prop :=
  ∀ (i : Instr) (s t : State), exec i s = .next t → s.trueCount < 2 ^ 32 →
    (i = .pulse → (s.ovfPend = true → s.raw ≠ 65535#16) → t.trueCount = s.trueCount + 1) ∧
    (i = .init → t.trueCount = 0) ∧
    (closesGate i s = true → t.trueCount = 0) ∧
    (i ≠ .pulse → i ≠ .init → closesGate i s = false → t.trueCount = s.trueCount)

/-- Overflow accumulation (41_pulse_counter.md section 3, derived): from an empty counter, with every wrap served before
the next, no INIT and no closure, N × 65536 + r pulses leave OVFACC = N × 65536, RAW = r, and an effective count of the
number of pulses. -/
def Obligations.EffectiveCountIsTheNumberOfPulses : Prop :=
  ∀ (s : State) (t : List Instr), s.initialised = true → s.raw = 0#16 → s.ovfacc = 0#32 → s.ovfPend = false →
    Instr.init ∉ t → gateClosures s t = 0 → wrapsServedInTime s t = true → (s.after t).ovfPend = false →
    t.count .pulse < 2 ^ 32 →
    (s.after t).raw.toNat = t.count .pulse % 65536 ∧
    (s.after t).ovfacc.toNat = 65536 * (t.count .pulse / 65536) ∧
    (s.after t).effectiveCount.toNat = t.count .pulse

/-- No pulse is lost across gate closures (41_pulse_counter.md section 3, derived): with every wrap served before the
next, the counts latched so far and the true count add up to the pulses. -/
def Obligations.NoPulseIsLostAcrossClosures : Prop :=
  ∀ (s : State) (t : List Instr), s.initialised = true → Instr.init ∉ t → wrapsServedInTime s t = true →
    s.trueCount + t.count .pulse < 2 ^ 32 →
    latchedTotal s t + (s.after t).trueCount = s.trueCount + t.count .pulse

/-! ### Classifier -/

/-- Ranges (42_classifier.md section 2): high exactly when the count is at least the threshold, for every count up to
2^32 - 1 and whatever the last range was. The threshold's number 102000 is D9 (log 8), the width 32 is D6 (log 7). -/
def Obligations.HighRangeIsTheInclusiveThreshold : Prop :=
  (∀ count : AccWord, (classify Config.params count).2 = true ↔ 102000 ≤ count.toNat) ∧
  (∀ s : State, s.initialised = true → s.ovfPend = false → s.tickPend = true → s.downcnt = 1#8 →
    ∃ t, exec .svc s = .next t ∧ (t.range = true ↔ 102000 ≤ (s.ovfacc.toNat + s.raw.toNat) % 2 ^ 32))

/-- Divisor selection (42_classifier.md section 3): the constants 4000 and 400, ten to one, and the comparator output that
is RANGE selects the divisor of the duty. The floor quotient is D11, its low 8 bits without a clamp D10 (log 10). -/
def Obligations.RangeSelectsTheDivisor : Prop :=
  divisorFor Config.params true = 4000 ∧ divisorFor Config.params false = 400 ∧
  Config.params.divHigh = 10 * Config.params.divLow ∧
  ∀ count : AccWord, (classify Config.params count).1.toNat =
    count.toNat / (if (classify Config.params count).2 then 4000 else 400) % 256

/-- Zero input (42_classifier.md R148): count 0 gives duty 0 in the low range, and counts 1 to 399 duty 0. -/
def Obligations.ZeroCountGivesZeroDuty : Prop :=
  classify Config.params 0#32 = (0#8, false) ∧
  ∀ count : AccWord, 1 ≤ count.toNat → count.toNat ≤ 399 → (classify Config.params count).1 = 0#8

/-- The low range never wraps: the duty is the floor quotient exactly and at most 254 (42_classifier.md section 3,
derived; the threshold is D9, log 8). -/
def Obligations.LowRangeNeverWraps : Prop :=
  ∀ count : AccWord, count.toNat < 102000 →
    (classify Config.params count).1.toNat = count.toNat / 400 ∧ (classify Config.params count).1.toNat ≤ 254

/-- For any threshold taken as a parameter, the low range fits 8 bits exactly when THRESHOLD ≤ 256 × DIV_LOW
(42_classifier.md section 3, derived). -/
def Obligations.LowRangeFitsExactlyUpTo256Divisors : Prop :=
  ∀ p : Params, 0 < p.divLow → p.threshold ≤ 2 ^ 32 →
    ((∀ count : AccWord, count.toNat < p.threshold → (classify p count).1.toNat = count.toNat / p.divLow) ↔
      p.threshold ≤ 256 * p.divLow)

/-- The high range: exact and in [25, 255] up to 1023999, the low 8 bits of the quotient, without a clamp, above
(42_classifier.md section 3; D9, D10, log 8, log 10). -/
def Obligations.HighRangeIsExactThenWraps : Prop :=
  (∀ count : AccWord, 102000 ≤ count.toNat → count.toNat < 1024000 →
    (classify Config.params count).1.toNat = count.toNat / 4000 ∧
    25 ≤ (classify Config.params count).1.toNat ∧ (classify Config.params count).1.toNat ≤ 255) ∧
  (∀ count : AccWord, 1024000 ≤ count.toNat →
    (classify Config.params count) = (BitVec.ofNat 8 (count.toNat / 4000 % 256), true))

/-- The jump at the threshold and monotonicity within a range up to the wrap (42_classifier.md section 4, derived;
log 8). -/
def Obligations.DutyIsMonotonicWithinARange : Prop :=
  classify Config.params 101999#32 = (254#8, false) ∧ classify Config.params 102000#32 = (25#8, true) ∧
  ∀ c c' : AccWord, c.toNat ≤ c'.toNat → c'.toNat < 1024000 →
    (classify Config.params c).2 = (classify Config.params c').2 →
    (classify Config.params c).1.toNat ≤ (classify Config.params c').1.toNat

/-! ### Output generator -/

/-- PWMCLK counts PWMCNT one up modulo 2^8 and changes nothing else; 256 of them are one period, after which the state
is as before (43_pwm_output.md sections 1 and 3; D8, D16, log 14; the word is D17, log 18). -/
def Obligations.PwmClockCountsUpWithPeriod256 : Prop :=
  decode 0x04#8 = .ok .pwmclk ∧
  (∀ s : State, s.initialised = true →
    exec .pwmclk s = .next { s with pwmcnt := BitVec.ofNat 8 ((s.pwmcnt.toNat + 1) % 2 ^ 8) }) ∧
  (∀ s : State, s.initialised = true → s.after (List.replicate 256 .pwmclk) = s)

/-- SAMPLE (43_pwm_output.md section 2): PWM_OUT is low when PWMCNT exceeds DUTY, high otherwise, and nothing else
changes. The word is D17 (log 18), the latch D15 and the counter's width D8 (log 14, log 7). -/
def Obligations.SampleComparesCounterWithDuty : Prop :=
  decode 0x05#8 = .ok .sample ∧
  ∀ s : State, s.initialised = true →
    exec .sample s = .next { s with pwmOut := if s.pwmcnt.toNat > s.duty.toNat then false else true }

/-- The pin holds its level through any events but SAMPLE (43_pwm_output.md section 2; D15, log 14). -/
def Obligations.PinHoldsItsLevelBetweenSamples : Prop :=
  ∀ (s : State) (t : List Instr), Instr.sample ∉ t → (s.after t).pwmOut = s.pwmOut

/-- Over one full period with a SAMPLE at every counter value the pin is high DUTY + 1 times of 256, from any starting
value of the counter, which ends where it began (43_pwm_output.md section 3, derived; D16, log 14). -/
def Obligations.HighFractionIsDutyPlusOneOf256 : Prop :=
  ∀ s : State, s.initialised = true →
    let t := (List.replicate 256 [Instr.sample, Instr.pwmclk]).flatten
    (sampledLevels s t).length = 256 ∧ (sampledLevels s t).count true = s.duty.toNat + 1 ∧
    (s.after t).pwmcnt = s.pwmcnt

/-- SAMPLE reads PWMCNT and DUTY and nothing else: two states that agree there get the same level, and nothing else of
either changes (43_pwm_output.md section 2; 10_state.md section 3: the dispatch loop never touches the wide elements). -/
def Obligations.SampleReadsOnlyDutyAndCounter : Prop :=
  ∀ s u : State, s.initialised = true → u.initialised = true → u.duty = s.duty → u.pwmcnt = s.pwmcnt →
    ∃ level, exec .sample s = .next { s with pwmOut := level } ∧ exec .sample u = .next { u with pwmOut := level }

/-! ### Interrupt service -/

/-- The four cases of SVC: it completes for every in-range downcounter and leaves OVF_PEND 0, and TICK_PEND 1 exactly
when both were pending; when both were pending the downcounter, the count register and the outputs wait for the second
SVC (45_service_and_init.md section 1; overflow first is D3, log 9). -/
def Obligations.ServiceServesOneSourceOverflowFirst : Prop :=
  ∀ s : State, s.initialised = true → 1 ≤ s.downcnt.toNat → s.downcnt.toNat ≤ 200 →
    ∃ t, exec .svc s = .next t ∧ t.ovfPend = false ∧ t.tickPend = (s.ovfPend && s.tickPend) ∧
      (s.ovfPend = true → t.downcnt = s.downcnt ∧ t.raw = s.raw ∧ t.duty = s.duty ∧ t.range = s.range) ∧
      (s.ovfPend = true → s.tickPend = true → ∃ u, exec .svc t = .next u ∧ servesTick .svc t = true ∧
        u.tickPend = false)

/-- SVC with nothing pending changes nothing (45_service_and_init.md section 1; D19, log 22; the word is D17, log 18). -/
def Obligations.ServiceWithNothingPendingChangesNothing : Prop :=
  decode 0x06#8 = .ok .svc ∧
  ∀ s : State, s.initialised = true → s.ovfPend = false → s.tickPend = false → exec .svc s = .next s

/-- What SVC never touches (45_service_and_init.md R185): no branch of it writes PWMCNT or PWM_OUT, and none reads them:
with other values there it does the same to everything else; and they share only DUTY with it: a SAMPLE after an SVC that
left DUTY as it was drives the pin as a SAMPLE before it. -/
def Obligations.ServiceNeverTouchesTheOutputGenerator : Prop :=
  (∀ s t : State, exec .svc s = .next t → t.pwmcnt = s.pwmcnt ∧ t.pwmOut = s.pwmOut) ∧
  (∀ (s t : State) (c : PwmWord) (b : Bool), exec .svc s = .next t →
    exec .svc { s with pwmcnt := c, pwmOut := b } = .next { t with pwmcnt := c, pwmOut := b }) ∧
  (∀ (s : State) (c : PwmWord) (b : Bool) (q : Refusal), exec .svc s = .refused q →
    exec .svc { s with pwmcnt := c, pwmOut := b } = .refused q) ∧
  (∀ s t : State, exec .svc s = .next t → t.duty = s.duty →
    ∃ level, exec .sample s = .next { s with pwmOut := level } ∧ exec .sample t = .next { t with pwmOut := level })

/-- Pending bits are set only by their sources and cleared only by their own sub-handler or INIT (60_exceptions.md
section 2; D2, log 12). -/
def Obligations.PendingBitsHaveTheirOwnSettersAndClearers : Prop :=
  ∀ (i : Instr) (s t : State), exec i s = .next t →
    (s.tickPend = false → t.tickPend = true → i = .tick) ∧
    (s.ovfPend = false → t.ovfPend = true → i = .pulse ∧ s.raw = 65535#16 ∧ t.raw = 0#16) ∧
    (s.tickPend = true → t.tickPend = false → i = .init ∨ i = .svc ∧ s.ovfPend = false) ∧
    (s.ovfPend = true → t.ovfPend = false → i = .init ∨ i = .svc)

/-- `irq` is the OR of the two requests, and is 1 exactly when SVC has work: with `irq` = 0 an SVC changes nothing, with
`irq` = 1 it does not leave the state as it is (10_state.md section 5; D19, D23, log 22). -/
def Obligations.IrqIsOneExactlyWhenServiceHasWork : Prop :=
  (∀ s : State, s.irq = true ↔ s.ovfPend = true ∨ s.tickPend = true) ∧
  (∀ s : State, s.initialised = true → (s.irq = false ↔ exec .svc s = .next s))

/-- Progress for each source (45_service_and_init.md section 1; D26, log 20): along a weakly fair endless run a request
pending at n waits a finite time, its bit 1 all the while, until the service of that source, or an INIT, which discards
it (D13, log 13). Fairness of each request gives fairness of SVC. -/
def Obligations.FairRunServesEveryRequestOrInitDiscardsIt : Prop :=
  ∀ (e : Nat → Instr) (s : State), WeaklyFair e s →
    (∀ (src : Source) (n : Nat), (stateAt e s n).requests src = true →
      ∃ m, n ≤ m ∧ (∀ k, n ≤ k → k ≤ m → (stateAt e s k).requests src = true) ∧
        (serves src (e m) (stateAt e s m) = true ∧ (stateAt e s (m + 1)).requests src = false ∨ e m = .init)) ∧
    ServiceFair e s

/-- Fairness of SVC alone (if `irq` stays 1, an SVC comes) clears every pending overflow, and a pending tick when no
overflow is pending from then on; behind overflows without end a tick could starve, which is why the fairness above is
for each source (45_service_and_init.md section 1; D3, D26, log 9, log 20). -/
def Obligations.FairServiceClearsEveryRequest : Prop :=
  ∀ (e : Nat → Instr) (s : State), s.initialised = true → Inv s → ServiceFair e s →
    (∀ n, (stateAt e s n).ovfPend = true → ∃ m, n ≤ m ∧ (stateAt e s m).ovfPend = false) ∧
    (∀ n, (stateAt e s n).tickPend = true → (∀ m, n ≤ m → (stateAt e s m).ovfPend = false) →
      ∃ m, n ≤ m ∧ (stateAt e s m).tickPend = false)

/-! ### Order of events -/

/-- A TICK and a PULSE in either order give the same state; when the PULSE wraps, both requests are pending and RAW is 0
(60_exceptions.md section 3; D1, D3). -/
def Obligations.TickAndPulseCommute : Prop :=
  (∀ s : State, s.after [.tick, .pulse] = s.after [.pulse, .tick]) ∧
  (∀ s : State, s.initialised = true → s.raw = 65535#16 →
    s.after [.tick, .pulse] = { s with raw := 0#16, tickPend := true, ovfPend := true })

/-- A pulse at the gate boundary is in this window when it is before the closing SVC and in the next when it is after,
and is lost in neither order (60_exceptions.md section 3, 70_reset_and_hazards.md section 3; D1, log 11). -/
def Obligations.PulseAtTheBoundaryFallsInOneWindow : Prop :=
  ∀ s : State, closesGate .svc s = true → s.raw ≠ 65535#16 →
    s.ovfacc.toNat + s.raw.toNat + 1 < 2 ^ 32 →
    latchedTotal s [.pulse, .svc] = s.ovfacc.toNat + s.raw.toNat + 1 ∧ (s.after [.pulse, .svc]).raw = 0#16 ∧
    latchedTotal s [.svc, .pulse] = s.ovfacc.toNat + s.raw.toNat ∧ (s.after [.svc, .pulse]).raw = 1#16

/-- A SAMPLE before or after an overflow service gives the same state, so one source per SVC is the source's one handler
(45_service_and_init.md section 1, derived; D3, log 9). -/
def Obligations.SampleAndOverflowServiceCommute : Prop :=
  ∀ s : State, s.ovfPend = true → s.after [.sample, .svc] = s.after [.svc, .sample]

/-! ### The whole machine -/

/-- The writers of every element (10_state.md section 3, the table; sections 3 and 4 of 20_memory.md: one writer each):
what a completing event changed tells which event it was. Nothing writes the queue or the record from inside an event
(log 1, log 3). -/
def Obligations.EveryElementHasOnlyItsWriters : Prop :=
  ∀ (i : Instr) (s t : State), exec i s = .next t →
    (t.downcnt ≠ s.downcnt → i = .init ∨ servesTick i s = true) ∧
    (t.raw ≠ s.raw → i = .init ∨ i = .pulse ∨ closesGate i s = true) ∧
    (t.ovfacc ≠ s.ovfacc → i = .init ∨ i = .svc ∧ s.ovfPend = true ∨ closesGate i s = true) ∧
    (t.duty ≠ s.duty → i = .init ∨ closesGate i s = true) ∧
    (t.range ≠ s.range → i = .init ∨ closesGate i s = true) ∧
    (t.pwmcnt ≠ s.pwmcnt → i = .pwmclk) ∧
    (t.pwmOut ≠ s.pwmOut → i = .sample) ∧
    (t.ovfPend ≠ s.ovfPend → i = .init ∨ i = .pulse ∨ i = .svc) ∧
    (t.tickPend ≠ s.tickPend → i = .init ∨ i = .tick ∨ i = .svc) ∧
    (t.initialised ≠ s.initialised → i = .init) ∧ t.events = s.events ∧ t.refusals = s.refusals

/-- The invariant holds at reset: DOWNCNT in [1, 200], OVFACC a multiple of the quantum, DUTY and RANGE from one count
(10_state.md section 4, derived). -/
def Obligations.ResetMeetsTheInvariant : Prop := Inv State.reset ∧ State.reset.initialised = true

/-- Every step keeps the invariant: DOWNCNT in [1, 200] (10_state.md section 4, derived), OVFACC a multiple of the quantum
(the same), and (DUTY, RANGE) always the classification of one count (42_classifier.md section 4). -/
def Obligations.EveryStepKeepsTheInvariant : Prop :=
  ∀ s s' : State, Inv s → step s = .next s' → Inv s'

/-- After INIT, in the invariant, every event completes: none is refused (45_service_and_init.md and
43_pwm_output.md: always enabled; DOWNCNT out of range is unreachable; D13, D27). -/
def Obligations.EveryEventCompletesAfterInit : Prop :=
  ∀ (i : Instr) (s : State), Inv s → s.initialised = true →
    ∃ t, exec i s = .next t ∧ t.initialised = true ∧ Inv t

/-- A well-formed trace is never refused, from any state, power-on included: a queue whose first word is INIT and that
holds no reserved word runs to its end with nothing added to the record, in the invariant (00_scope.md section 3,
70_reset_and_hazards.md section 2; D13, D18, log 3). -/
def Obligations.WellFormedTraceIsNeverRefused : Prop :=
  ∀ (s : State) (ws : List Byte), traceWellFormed ws = true →
    ∃ t, Host.Core.run Sys2Proof.core ws.length { s with events := ws } = .next t ∧
      t.refusals = s.refusals ∧ t.events = [] ∧ t.initialised = true ∧ Inv t

/-! ### Configuration -/

/-- The constants move together: two build-time constants are accepted exactly when their product is a positive multiple
of 10 and GATE_TICKS fits DOWN_BITS, and then DIV_HIGH = 10 × DIV_LOW and THRESHOLD = 255 × DIV_LOW (00_scope.md
section 2, 70_reset_and_hazards.md section 3; D9, D11, log 8, log 23). -/
def Obligations.ConfigurationFollowsFromTwoConstants : Prop :=
  ∀ g f : Nat,
    ((Params.ofConstants g f).accepted = true ↔ 0 < g * f ∧ g * f % 10 = 0 ∧ g < 256) ∧
    ((Params.ofConstants g f).accepted = true →
      (Params.ofConstants g f).divHigh = 10 * (Params.ofConstants g f).divLow ∧
      (Params.ofConstants g f).threshold = 255 * (Params.ofConstants g f).divLow)
end

