-- ==== Sys2Proof/Laws/Decode.lean ====
section
/-! SUPPORT. The opcode map of 30_encoding.md R72: no two rows select one word, and it selects exactly the words the
field-by-field decoder of R74 reads. -/

namespace Sys2Proof

theorem opcodeMap_rows_disjoint :
    opcodeMap.Pairwise (fun a b => ∀ w : Byte, (a.selects w && b.selects w) = false) := by decide

theorem selects_iff_decode (w : Byte) :
    ∀ r ∈ opcodeMap, r.selects w = true ↔ decodeOp (opField w) = some r.instr ∧ rsvField w = 0 := by
  revert w; decide

theorem wordWellFormed_iff_selected (w : Byte) : wordWellFormed w = opcodeMap.any (·.selects w) := by
  revert w; decide

namespace Machine

@[simp] theorem expand_seq (a b : Trace) : (Trace.seq a b).expand = a.expand ++ b.expand := rfl

@[simp] theorem expand_rep (n : Nat) (b : Trace) : (Trace.rep n b).expand = (List.replicate n b.expand).flatten := rfl

end Machine

end Sys2Proof
end

