-- ==== Sys2Proof/Laws/State.lean ====
section
/-! SUPPORT. For each update of the state and each field, what the field holds after it: true by rfl. -/

namespace Sys2Proof.Machine

variable (s : State)

@[simp] theorem State.raiseTick_downcnt : s.raiseTick.downcnt = s.downcnt := rfl
@[simp] theorem State.raiseTick_raw : s.raiseTick.raw = s.raw := rfl
@[simp] theorem State.raiseTick_ovfacc : s.raiseTick.ovfacc = s.ovfacc := rfl
@[simp] theorem State.raiseTick_duty : s.raiseTick.duty = s.duty := rfl
@[simp] theorem State.raiseTick_range : s.raiseTick.range = s.range := rfl
@[simp] theorem State.raiseTick_pwmcnt : s.raiseTick.pwmcnt = s.pwmcnt := rfl
@[simp] theorem State.raiseTick_pwmOut : s.raiseTick.pwmOut = s.pwmOut := rfl
@[simp] theorem State.raiseTick_ovfPend : s.raiseTick.ovfPend = s.ovfPend := rfl
@[simp] theorem State.raiseTick_tickPend : s.raiseTick.tickPend = true := rfl
@[simp] theorem State.raiseTick_initialised : s.raiseTick.initialised = s.initialised := rfl
@[simp] theorem State.raiseTick_events : s.raiseTick.events = s.events := rfl
@[simp] theorem State.raiseTick_refusals : s.raiseTick.refusals = s.refusals := rfl

@[simp] theorem State.clearTick_downcnt : s.clearTick.downcnt = s.downcnt := rfl
@[simp] theorem State.clearTick_raw : s.clearTick.raw = s.raw := rfl
@[simp] theorem State.clearTick_ovfacc : s.clearTick.ovfacc = s.ovfacc := rfl
@[simp] theorem State.clearTick_duty : s.clearTick.duty = s.duty := rfl
@[simp] theorem State.clearTick_range : s.clearTick.range = s.range := rfl
@[simp] theorem State.clearTick_pwmcnt : s.clearTick.pwmcnt = s.pwmcnt := rfl
@[simp] theorem State.clearTick_pwmOut : s.clearTick.pwmOut = s.pwmOut := rfl
@[simp] theorem State.clearTick_ovfPend : s.clearTick.ovfPend = s.ovfPend := rfl
@[simp] theorem State.clearTick_tickPend : s.clearTick.tickPend = false := rfl
@[simp] theorem State.clearTick_initialised : s.clearTick.initialised = s.initialised := rfl
@[simp] theorem State.clearTick_events : s.clearTick.events = s.events := rfl
@[simp] theorem State.clearTick_refusals : s.clearTick.refusals = s.refusals := rfl

@[simp] theorem State.raiseOvf_downcnt : s.raiseOvf.downcnt = s.downcnt := rfl
@[simp] theorem State.raiseOvf_raw : s.raiseOvf.raw = s.raw := rfl
@[simp] theorem State.raiseOvf_ovfacc : s.raiseOvf.ovfacc = s.ovfacc := rfl
@[simp] theorem State.raiseOvf_duty : s.raiseOvf.duty = s.duty := rfl
@[simp] theorem State.raiseOvf_range : s.raiseOvf.range = s.range := rfl
@[simp] theorem State.raiseOvf_pwmcnt : s.raiseOvf.pwmcnt = s.pwmcnt := rfl
@[simp] theorem State.raiseOvf_pwmOut : s.raiseOvf.pwmOut = s.pwmOut := rfl
@[simp] theorem State.raiseOvf_ovfPend : s.raiseOvf.ovfPend = true := rfl
@[simp] theorem State.raiseOvf_tickPend : s.raiseOvf.tickPend = s.tickPend := rfl
@[simp] theorem State.raiseOvf_initialised : s.raiseOvf.initialised = s.initialised := rfl
@[simp] theorem State.raiseOvf_events : s.raiseOvf.events = s.events := rfl
@[simp] theorem State.raiseOvf_refusals : s.raiseOvf.refusals = s.refusals := rfl

@[simp] theorem State.clearOvf_downcnt : s.clearOvf.downcnt = s.downcnt := rfl
@[simp] theorem State.clearOvf_raw : s.clearOvf.raw = s.raw := rfl
@[simp] theorem State.clearOvf_ovfacc : s.clearOvf.ovfacc = s.ovfacc := rfl
@[simp] theorem State.clearOvf_duty : s.clearOvf.duty = s.duty := rfl
@[simp] theorem State.clearOvf_range : s.clearOvf.range = s.range := rfl
@[simp] theorem State.clearOvf_pwmcnt : s.clearOvf.pwmcnt = s.pwmcnt := rfl
@[simp] theorem State.clearOvf_pwmOut : s.clearOvf.pwmOut = s.pwmOut := rfl
@[simp] theorem State.clearOvf_ovfPend : s.clearOvf.ovfPend = false := rfl
@[simp] theorem State.clearOvf_tickPend : s.clearOvf.tickPend = s.tickPend := rfl
@[simp] theorem State.clearOvf_initialised : s.clearOvf.initialised = s.initialised := rfl
@[simp] theorem State.clearOvf_events : s.clearOvf.events = s.events := rfl
@[simp] theorem State.clearOvf_refusals : s.clearOvf.refusals = s.refusals := rfl

@[simp] theorem State.arrive_downcnt (w : Byte) : (s.arrive w).downcnt = s.downcnt := rfl
@[simp] theorem State.arrive_raw (w : Byte) : (s.arrive w).raw = s.raw := rfl
@[simp] theorem State.arrive_ovfacc (w : Byte) : (s.arrive w).ovfacc = s.ovfacc := rfl
@[simp] theorem State.arrive_duty (w : Byte) : (s.arrive w).duty = s.duty := rfl
@[simp] theorem State.arrive_range (w : Byte) : (s.arrive w).range = s.range := rfl
@[simp] theorem State.arrive_pwmcnt (w : Byte) : (s.arrive w).pwmcnt = s.pwmcnt := rfl
@[simp] theorem State.arrive_pwmOut (w : Byte) : (s.arrive w).pwmOut = s.pwmOut := rfl
@[simp] theorem State.arrive_ovfPend (w : Byte) : (s.arrive w).ovfPend = s.ovfPend := rfl
@[simp] theorem State.arrive_tickPend (w : Byte) : (s.arrive w).tickPend = s.tickPend := rfl
@[simp] theorem State.arrive_initialised (w : Byte) : (s.arrive w).initialised = s.initialised := rfl
@[simp] theorem State.arrive_events (w : Byte) : (s.arrive w).events = w :: s.events := rfl
@[simp] theorem State.arrive_refusals (w : Byte) : (s.arrive w).refusals = s.refusals := rfl

@[simp] theorem State.record_downcnt (v : Verdict) : (s.record v).downcnt = s.downcnt := rfl
@[simp] theorem State.record_raw (v : Verdict) : (s.record v).raw = s.raw := rfl
@[simp] theorem State.record_ovfacc (v : Verdict) : (s.record v).ovfacc = s.ovfacc := rfl
@[simp] theorem State.record_duty (v : Verdict) : (s.record v).duty = s.duty := rfl
@[simp] theorem State.record_range (v : Verdict) : (s.record v).range = s.range := rfl
@[simp] theorem State.record_pwmcnt (v : Verdict) : (s.record v).pwmcnt = s.pwmcnt := rfl
@[simp] theorem State.record_pwmOut (v : Verdict) : (s.record v).pwmOut = s.pwmOut := rfl
@[simp] theorem State.record_ovfPend (v : Verdict) : (s.record v).ovfPend = s.ovfPend := rfl
@[simp] theorem State.record_tickPend (v : Verdict) : (s.record v).tickPend = s.tickPend := rfl
@[simp] theorem State.record_initialised (v : Verdict) : (s.record v).initialised = s.initialised := rfl
@[simp] theorem State.record_events (v : Verdict) : (s.record v).events = s.events := rfl
@[simp] theorem State.record_refusals (v : Verdict) : (s.record v).refusals = s.refusals ++ [v] := rfl

@[simp] theorem State.incRaw_downcnt : s.incRaw.downcnt = s.downcnt := rfl
@[simp] theorem State.incRaw_raw : s.incRaw.raw = s.raw + 1 := rfl
@[simp] theorem State.incRaw_ovfacc : s.incRaw.ovfacc = s.ovfacc := rfl
@[simp] theorem State.incRaw_duty : s.incRaw.duty = s.duty := rfl
@[simp] theorem State.incRaw_range : s.incRaw.range = s.range := rfl
@[simp] theorem State.incRaw_pwmcnt : s.incRaw.pwmcnt = s.pwmcnt := rfl
@[simp] theorem State.incRaw_pwmOut : s.incRaw.pwmOut = s.pwmOut := rfl
@[simp] theorem State.incRaw_ovfPend : s.incRaw.ovfPend = s.ovfPend := rfl
@[simp] theorem State.incRaw_tickPend : s.incRaw.tickPend = s.tickPend := rfl
@[simp] theorem State.incRaw_initialised : s.incRaw.initialised = s.initialised := rfl
@[simp] theorem State.incRaw_events : s.incRaw.events = s.events := rfl
@[simp] theorem State.incRaw_refusals : s.incRaw.refusals = s.refusals := rfl

@[simp] theorem State.addQuantum_downcnt (p : Params) : (s.addQuantum p).downcnt = s.downcnt := rfl
@[simp] theorem State.addQuantum_raw (p : Params) : (s.addQuantum p).raw = s.raw := rfl
@[simp] theorem State.addQuantum_ovfacc (p : Params) : (s.addQuantum p).ovfacc = s.ovfacc + quantumWord p := rfl
@[simp] theorem State.addQuantum_duty (p : Params) : (s.addQuantum p).duty = s.duty := rfl
@[simp] theorem State.addQuantum_range (p : Params) : (s.addQuantum p).range = s.range := rfl
@[simp] theorem State.addQuantum_pwmcnt (p : Params) : (s.addQuantum p).pwmcnt = s.pwmcnt := rfl
@[simp] theorem State.addQuantum_pwmOut (p : Params) : (s.addQuantum p).pwmOut = s.pwmOut := rfl
@[simp] theorem State.addQuantum_ovfPend (p : Params) : (s.addQuantum p).ovfPend = s.ovfPend := rfl
@[simp] theorem State.addQuantum_tickPend (p : Params) : (s.addQuantum p).tickPend = s.tickPend := rfl
@[simp] theorem State.addQuantum_initialised (p : Params) : (s.addQuantum p).initialised = s.initialised := rfl
@[simp] theorem State.addQuantum_events (p : Params) : (s.addQuantum p).events = s.events := rfl
@[simp] theorem State.addQuantum_refusals (p : Params) : (s.addQuantum p).refusals = s.refusals := rfl

@[simp] theorem State.clearCount_downcnt : s.clearCount.downcnt = s.downcnt := rfl
@[simp] theorem State.clearCount_raw : s.clearCount.raw = 0#16 := rfl
@[simp] theorem State.clearCount_ovfacc : s.clearCount.ovfacc = 0#32 := rfl
@[simp] theorem State.clearCount_duty : s.clearCount.duty = s.duty := rfl
@[simp] theorem State.clearCount_range : s.clearCount.range = s.range := rfl
@[simp] theorem State.clearCount_pwmcnt : s.clearCount.pwmcnt = s.pwmcnt := rfl
@[simp] theorem State.clearCount_pwmOut : s.clearCount.pwmOut = s.pwmOut := rfl
@[simp] theorem State.clearCount_ovfPend : s.clearCount.ovfPend = s.ovfPend := rfl
@[simp] theorem State.clearCount_tickPend : s.clearCount.tickPend = s.tickPend := rfl
@[simp] theorem State.clearCount_initialised : s.clearCount.initialised = s.initialised := rfl
@[simp] theorem State.clearCount_events : s.clearCount.events = s.events := rfl
@[simp] theorem State.clearCount_refusals : s.clearCount.refusals = s.refusals := rfl

@[simp] theorem State.publish_downcnt (r : DutyWord × Bool) : (s.publish r).downcnt = s.downcnt := rfl
@[simp] theorem State.publish_raw (r : DutyWord × Bool) : (s.publish r).raw = s.raw := rfl
@[simp] theorem State.publish_ovfacc (r : DutyWord × Bool) : (s.publish r).ovfacc = s.ovfacc := rfl
@[simp] theorem State.publish_duty (r : DutyWord × Bool) : (s.publish r).duty = r.1 := rfl
@[simp] theorem State.publish_range (r : DutyWord × Bool) : (s.publish r).range = r.2 := rfl
@[simp] theorem State.publish_pwmcnt (r : DutyWord × Bool) : (s.publish r).pwmcnt = s.pwmcnt := rfl
@[simp] theorem State.publish_pwmOut (r : DutyWord × Bool) : (s.publish r).pwmOut = s.pwmOut := rfl
@[simp] theorem State.publish_ovfPend (r : DutyWord × Bool) : (s.publish r).ovfPend = s.ovfPend := rfl
@[simp] theorem State.publish_tickPend (r : DutyWord × Bool) : (s.publish r).tickPend = s.tickPend := rfl
@[simp] theorem State.publish_initialised (r : DutyWord × Bool) : (s.publish r).initialised = s.initialised := rfl
@[simp] theorem State.publish_events (r : DutyWord × Bool) : (s.publish r).events = s.events := rfl
@[simp] theorem State.publish_refusals (r : DutyWord × Bool) : (s.publish r).refusals = s.refusals := rfl

@[simp] theorem State.setDowncnt_downcnt (d : DownWord) : (s.setDowncnt d).downcnt = d := rfl
@[simp] theorem State.setDowncnt_raw (d : DownWord) : (s.setDowncnt d).raw = s.raw := rfl
@[simp] theorem State.setDowncnt_ovfacc (d : DownWord) : (s.setDowncnt d).ovfacc = s.ovfacc := rfl
@[simp] theorem State.setDowncnt_duty (d : DownWord) : (s.setDowncnt d).duty = s.duty := rfl
@[simp] theorem State.setDowncnt_range (d : DownWord) : (s.setDowncnt d).range = s.range := rfl
@[simp] theorem State.setDowncnt_pwmcnt (d : DownWord) : (s.setDowncnt d).pwmcnt = s.pwmcnt := rfl
@[simp] theorem State.setDowncnt_pwmOut (d : DownWord) : (s.setDowncnt d).pwmOut = s.pwmOut := rfl
@[simp] theorem State.setDowncnt_ovfPend (d : DownWord) : (s.setDowncnt d).ovfPend = s.ovfPend := rfl
@[simp] theorem State.setDowncnt_tickPend (d : DownWord) : (s.setDowncnt d).tickPend = s.tickPend := rfl
@[simp] theorem State.setDowncnt_initialised (d : DownWord) : (s.setDowncnt d).initialised = s.initialised := rfl
@[simp] theorem State.setDowncnt_events (d : DownWord) : (s.setDowncnt d).events = s.events := rfl
@[simp] theorem State.setDowncnt_refusals (d : DownWord) : (s.setDowncnt d).refusals = s.refusals := rfl

@[simp] theorem State.incPwm_downcnt : s.incPwm.downcnt = s.downcnt := rfl
@[simp] theorem State.incPwm_raw : s.incPwm.raw = s.raw := rfl
@[simp] theorem State.incPwm_ovfacc : s.incPwm.ovfacc = s.ovfacc := rfl
@[simp] theorem State.incPwm_duty : s.incPwm.duty = s.duty := rfl
@[simp] theorem State.incPwm_range : s.incPwm.range = s.range := rfl
@[simp] theorem State.incPwm_pwmcnt : s.incPwm.pwmcnt = s.pwmcnt + 1 := rfl
@[simp] theorem State.incPwm_pwmOut : s.incPwm.pwmOut = s.pwmOut := rfl
@[simp] theorem State.incPwm_ovfPend : s.incPwm.ovfPend = s.ovfPend := rfl
@[simp] theorem State.incPwm_tickPend : s.incPwm.tickPend = s.tickPend := rfl
@[simp] theorem State.incPwm_initialised : s.incPwm.initialised = s.initialised := rfl
@[simp] theorem State.incPwm_events : s.incPwm.events = s.events := rfl
@[simp] theorem State.incPwm_refusals : s.incPwm.refusals = s.refusals := rfl

@[simp] theorem State.setPin_downcnt (b : Bool) : (s.setPin b).downcnt = s.downcnt := rfl
@[simp] theorem State.setPin_raw (b : Bool) : (s.setPin b).raw = s.raw := rfl
@[simp] theorem State.setPin_ovfacc (b : Bool) : (s.setPin b).ovfacc = s.ovfacc := rfl
@[simp] theorem State.setPin_duty (b : Bool) : (s.setPin b).duty = s.duty := rfl
@[simp] theorem State.setPin_range (b : Bool) : (s.setPin b).range = s.range := rfl
@[simp] theorem State.setPin_pwmcnt (b : Bool) : (s.setPin b).pwmcnt = s.pwmcnt := rfl
@[simp] theorem State.setPin_pwmOut (b : Bool) : (s.setPin b).pwmOut = b := rfl
@[simp] theorem State.setPin_ovfPend (b : Bool) : (s.setPin b).ovfPend = s.ovfPend := rfl
@[simp] theorem State.setPin_tickPend (b : Bool) : (s.setPin b).tickPend = s.tickPend := rfl
@[simp] theorem State.setPin_initialised (b : Bool) : (s.setPin b).initialised = s.initialised := rfl
@[simp] theorem State.setPin_events (b : Bool) : (s.setPin b).events = s.events := rfl
@[simp] theorem State.setPin_refusals (b : Bool) : (s.setPin b).refusals = s.refusals := rfl

@[simp] theorem State.initElements_downcnt (p : Params) : (s.initElements p).downcnt = gateWord p := rfl
@[simp] theorem State.initElements_raw (p : Params) : (s.initElements p).raw = 0#16 := rfl
@[simp] theorem State.initElements_ovfacc (p : Params) : (s.initElements p).ovfacc = 0#32 := rfl
@[simp] theorem State.initElements_duty (p : Params) : (s.initElements p).duty = 0#8 := rfl
@[simp] theorem State.initElements_range (p : Params) : (s.initElements p).range = false := rfl
@[simp] theorem State.initElements_pwmcnt (p : Params) : (s.initElements p).pwmcnt = s.pwmcnt := rfl
@[simp] theorem State.initElements_pwmOut (p : Params) : (s.initElements p).pwmOut = s.pwmOut := rfl
@[simp] theorem State.initElements_ovfPend (p : Params) : (s.initElements p).ovfPend = false := rfl
@[simp] theorem State.initElements_tickPend (p : Params) : (s.initElements p).tickPend = false := rfl
@[simp] theorem State.initElements_initialised (p : Params) : (s.initElements p).initialised = s.initialised := rfl
@[simp] theorem State.initElements_events (p : Params) : (s.initElements p).events = s.events := rfl
@[simp] theorem State.initElements_refusals (p : Params) : (s.initElements p).refusals = s.refusals := rfl

@[simp] theorem State.markInitialised_downcnt : s.markInitialised.downcnt = s.downcnt := rfl
@[simp] theorem State.markInitialised_raw : s.markInitialised.raw = s.raw := rfl
@[simp] theorem State.markInitialised_ovfacc : s.markInitialised.ovfacc = s.ovfacc := rfl
@[simp] theorem State.markInitialised_duty : s.markInitialised.duty = s.duty := rfl
@[simp] theorem State.markInitialised_range : s.markInitialised.range = s.range := rfl
@[simp] theorem State.markInitialised_pwmcnt : s.markInitialised.pwmcnt = s.pwmcnt := rfl
@[simp] theorem State.markInitialised_pwmOut : s.markInitialised.pwmOut = s.pwmOut := rfl
@[simp] theorem State.markInitialised_ovfPend : s.markInitialised.ovfPend = s.ovfPend := rfl
@[simp] theorem State.markInitialised_tickPend : s.markInitialised.tickPend = s.tickPend := rfl
@[simp] theorem State.markInitialised_initialised : s.markInitialised.initialised = true := rfl
@[simp] theorem State.markInitialised_events : s.markInitialised.events = s.events := rfl
@[simp] theorem State.markInitialised_refusals : s.markInitialised.refusals = s.refusals := rfl

@[simp] theorem State.gateClose_downcnt (p : Params) : (s.gateClose p).downcnt = gateWord p := rfl
@[simp] theorem State.gateClose_raw (p : Params) : (s.gateClose p).raw = 0#16 := rfl
@[simp] theorem State.gateClose_ovfacc (p : Params) : (s.gateClose p).ovfacc = 0#32 := rfl
@[simp] theorem State.gateClose_duty (p : Params) : (s.gateClose p).duty = (classify p s.effectiveCount).1 := rfl
@[simp] theorem State.gateClose_range (p : Params) : (s.gateClose p).range = (classify p s.effectiveCount).2 := rfl
@[simp] theorem State.gateClose_pwmcnt (p : Params) : (s.gateClose p).pwmcnt = s.pwmcnt := rfl
@[simp] theorem State.gateClose_pwmOut (p : Params) : (s.gateClose p).pwmOut = s.pwmOut := rfl
@[simp] theorem State.gateClose_ovfPend (p : Params) : (s.gateClose p).ovfPend = s.ovfPend := rfl
@[simp] theorem State.gateClose_tickPend (p : Params) : (s.gateClose p).tickPend = s.tickPend := rfl
@[simp] theorem State.gateClose_initialised (p : Params) : (s.gateClose p).initialised = s.initialised := rfl
@[simp] theorem State.gateClose_events (p : Params) : (s.gateClose p).events = s.events := rfl
@[simp] theorem State.gateClose_refusals (p : Params) : (s.gateClose p).refusals = s.refusals := rfl

end Sys2Proof.Machine
end

