-- ==== Sys2Proof/Laws/Ops.lean ====
section
/-! SUPPORT. One lemma per shared operation and per event that says everything it can do; proofs about the machine
cite these and do not unfold it again. -/

namespace Sys2Proof.Machine

variable {s t : State} {r : Result} {i : Instr} {p : Params}

@[simp] theorem whenInitialised_of_initialised (h : s.initialised = true) : whenInitialised s r = r := by
  simp [whenInitialised, h]

@[simp] theorem whenInitialised_of_not (h : s.initialised = false) :
    whenInitialised s r = .refused (.verdict .notInitialised) := by
  simp [whenInitialised, h]

theorem whenInitialised_eq_next_iff : whenInitialised s r = .next t ↔ s.initialised = true ∧ r = .next t := by
  cases h : s.initialised <;> simp [h]

@[simp] theorem settle_next : settle s (.next t) = .next t := rfl

@[simp] theorem settle_verdict (v : Verdict) : settle s (.refused (.verdict v)) = .next (s.record v) := rfl

theorem fetch_of_empty (h : s.events = []) : s.fetch = none := by simp [State.fetch, h]

theorem fetch_of_cons {w : Byte} {rest : List Byte} (h : s.events = w :: rest) :
    s.fetch = some (w, { s with events := rest }) := by simp [State.fetch, h]

theorem pendingSource_overflow (h : s.ovfPend = true) : s.pendingSource = some .overflow := by
  simp [State.pendingSource, h]

theorem pendingSource_tick (h : s.ovfPend = false) (h' : s.tickPend = true) : s.pendingSource = some .tick := by
  simp [State.pendingSource, h, h']

theorem pendingSource_none (h : s.ovfPend = false) (h' : s.tickPend = false) : s.pendingSource = none := by
  simp [State.pendingSource, h, h']

/-! The configuration's numbers, as equations that rewrite and do not unfold. -/

@[simp] theorem gateTicks_eq : Config.params.gateTicks = 200 := by decide
@[simp] theorem quantum_eq : Config.params.quantum = 65536 := by decide
@[simp] theorem divHigh_eq : Config.params.divHigh = 4000 := by decide
@[simp] theorem divLow_eq : Config.params.divLow = 400 := by decide
@[simp] theorem threshold_eq : Config.params.threshold = 102000 := by decide
@[simp] theorem gateWord_eq : gateWord Config.params = 200#8 := by decide
@[simp] theorem quantumWord_eq : quantumWord Config.params = 65536#32 := by decide

/-- The widths of the state's words are the configuration's. -/
theorem params_widths :
    Config.params.downBits = 8 ∧ Config.params.cntBits = 16 ∧ Config.params.accBits = 32 ∧ Config.params.pwmBits = 8 :=
  ⟨rfl, rfl, rfl, rfl⟩

theorem params_accepted : Config.params.accepted = true := by decide

theorem downcntInRange_iff :
    s.downcntInRange Config.params = true ↔ 1 ≤ s.downcnt.toNat ∧ s.downcnt.toNat ≤ 200 := by
  simp only [State.downcntInRange, Bool.and_eq_true, decide_eq_true_eq]
  rfl

theorem effectiveCount_toNat (s : State) :
    s.effectiveCount.toNat = (s.ovfacc.toNat + s.raw.toNat) % 2 ^ 32 := by
  simp only [State.effectiveCount, zextCount, BitVec.toNat_add, BitVec.toNat_setWidth]
  omega

theorem classify_fst (count : AccWord) :
    (classify Config.params count).1 =
      BitVec.ofNat 8 (if 102000 ≤ count.toNat then count.toNat / 4000 else count.toNat / 400) := by
  by_cases h : 102000 ≤ count.toNat <;> simp [classify, quotient, divisorFor, isHighRange, h]

theorem classify_snd (count : AccWord) : (classify Config.params count).2 = decide (102000 ≤ count.toNat) := rfl

/-- SVC.TICK's three ways: refused, an ordinary decrement, a gate closure (40_gate_timer.md R102, R104, R106). -/
theorem svcTick_eq :
    svcTick Config.params s =
      if ¬(1 ≤ s.downcnt.toNat ∧ s.downcnt.toNat ≤ 200) then .refused (.verdict .downcntOutOfRange)
      else if s.downcnt = 1 then .next (s.clearTick.gateClose Config.params)
      else .next (s.clearTick.setDowncnt (s.downcnt - 1)) := by
  have hd : s.downcnt - 1 = 0 ↔ s.downcnt = 1 := by bv_omega
  by_cases hr : 1 ≤ s.downcnt.toNat ∧ s.downcnt.toNat ≤ 200
  · rw [if_neg (not_not_intro hr)]
    simp only [svcTick, downcntInRange_iff.2 hr, if_true, hd]
    split <;> rfl
  · have : s.downcntInRange Config.params = false := by
      simpa using mt downcntInRange_iff.1 hr
    simp [svcTick, this, hr]

/-- What each event can do when it completes, one constructor per way. -/
inductive Effect : Instr → State → State → Prop where
  | init {s : State} : Effect .init s (s.initElements Config.params).markInitialised
  | edge {s : State} : s.initialised = true → s.raw ≠ 0xFFFF#16 → Effect .pulse s s.incRaw
  | wrap {s : State} : s.initialised = true → s.raw = 0xFFFF#16 → Effect .pulse s s.incRaw.raiseOvf
  | tick {s : State} : s.initialised = true → Effect .tick s s.raiseTick
  | pwmclk {s : State} : s.initialised = true → Effect .pwmclk s s.incPwm
  | sample {s : State} : s.initialised = true → Effect .sample s (s.setPin s.pwmCmp)
  | svcOvf {s : State} : s.initialised = true → s.ovfPend = true →
      Effect .svc s (s.clearOvf.addQuantum Config.params)
  | svcDecrement {s : State} : s.initialised = true → s.ovfPend = false → s.tickPend = true →
      2 ≤ s.downcnt.toNat → s.downcnt.toNat ≤ 200 → Effect .svc s (s.clearTick.setDowncnt (s.downcnt - 1))
  | svcClose {s : State} : s.initialised = true → s.ovfPend = false → s.tickPend = true → s.downcnt = 1 →
      Effect .svc s (s.clearTick.gateClose Config.params)
  | svcIdle {s : State} : s.initialised = true → s.ovfPend = false → s.tickPend = false → Effect .svc s s

/-- How an event is refused (00_scope.md R10). -/
inductive Refuses : Instr → State → Verdict → Prop where
  | notInitialised {i : Instr} {s : State} : s.initialised = false → i ≠ .init → Refuses i s .notInitialised
  | downcntOutOfRange {s : State} : s.initialised = true → s.ovfPend = false → s.tickPend = true →
      ¬(1 ≤ s.downcnt.toNat ∧ s.downcnt.toNat ≤ 200) → Refuses .svc s .downcntOutOfRange

/-- An event completes as `Effect` says or is refused as `Refuses` says; it never faults. -/
theorem exec_effect_or_refuses (i : Instr) (s : State) :
    (∃ t, exec i s = .next t ∧ Effect i s t) ∨ (∃ v, exec i s = .refused (.verdict v) ∧ Refuses i s v) := by
  cases i with
  | init => exact .inl ⟨_, rfl, .init⟩
  | tick =>
    cases h : s.initialised with
    | false => exact .inr ⟨_, by simp [exec, execTick, h], .notInitialised h (by decide)⟩
    | true => exact .inl ⟨_, by simp [exec, execTick, h], .tick h⟩
  | pwmclk =>
    cases h : s.initialised with
    | false => exact .inr ⟨_, by simp [exec, execPwmclk, h], .notInitialised h (by decide)⟩
    | true => exact .inl ⟨_, by simp [exec, execPwmclk, h], .pwmclk h⟩
  | sample =>
    cases h : s.initialised with
    | false => exact .inr ⟨_, by simp [exec, execSample, h], .notInitialised h (by decide)⟩
    | true => exact .inl ⟨_, by simp [exec, execSample, h], .sample h⟩
  | pulse =>
    cases h : s.initialised with
    | false => exact .inr ⟨_, by simp [exec, execPulse, h], .notInitialised h (by decide)⟩
    | true =>
      have hw : s.raw + 1 = 0 ↔ s.raw = 0xFFFF#16 := by bv_omega
      by_cases hr : s.raw = 0xFFFF#16
      · exact .inl ⟨_, by simp [exec, execPulse, h, hr], .wrap h hr⟩
      · refine .inl ⟨_, ?_, .edge h hr⟩
        simp only [exec, execPulse, whenInitialised_of_initialised h, State.incRaw_raw, hw, hr, if_false]
  | svc =>
    cases h : s.initialised with
    | false => exact .inr ⟨_, by simp [exec, execSvc, h], .notInitialised h (by decide)⟩
    | true =>
      cases ho : s.ovfPend with
      | true => exact .inl ⟨_, by simp [exec, execSvc, h, service, pendingSource_overflow ho, svcOvf], .svcOvf h ho⟩
      | false =>
        cases ht : s.tickPend with
        | false => exact .inl ⟨_, by simp [exec, execSvc, h, service, pendingSource_none ho ht], .svcIdle h ho ht⟩
        | true =>
          have he : exec .svc s = svcTick Config.params s := by
            simp [exec, execSvc, h, service, pendingSource_tick ho ht]
          by_cases hr : 1 ≤ s.downcnt.toNat ∧ s.downcnt.toNat ≤ 200
          · by_cases h1 : s.downcnt = 1
            · exact .inl ⟨_, by rw [he, svcTick_eq, if_neg (not_not_intro hr), if_pos h1], .svcClose h ho ht h1⟩
            · have h2 : 2 ≤ s.downcnt.toNat := by have := hr.1; bv_omega
              exact .inl ⟨_, by rw [he, svcTick_eq, if_neg (not_not_intro hr), if_neg h1],
                .svcDecrement h ho ht h2 hr.2⟩
          · exact .inr ⟨_, by rw [he, svcTick_eq, if_pos hr], .downcntOutOfRange h ho ht hr⟩

theorem effect_of_exec (h : exec i s = .next t) : Effect i s t := by
  rcases exec_effect_or_refuses i s with ⟨u, hu, he⟩ | ⟨v, hv, -⟩
  · rw [hu] at h; cases h; exact he
  · rw [hv] at h; cases h

theorem refuses_of_exec {q : Refusal} (h : exec i s = .refused q) : ∃ v, q = .verdict v ∧ Refuses i s v := by
  rcases exec_effect_or_refuses i s with ⟨u, hu, -⟩ | ⟨v, hv, hr⟩
  · rw [hu] at h; cases h
  · rw [hv] at h; cases h; exact ⟨v, rfl, hr⟩

theorem not_effect_of_refuses {v : Verdict} (h : Refuses i s v) : ¬ Effect i s t := by
  intro he
  cases h <;> cases he <;> simp_all

/-- The event that an effect names does complete, so `Effect` is exactly what `exec` answers. -/
theorem exec_of_effect (h : Effect i s t) : exec i s = .next t := by
  rcases exec_effect_or_refuses i s with ⟨u, hu, he⟩ | ⟨v, -, hr⟩
  · rw [hu]
    clear hu
    cases h <;> cases he <;> 
      first | contradiction | (simp_all only [reduceCtorEq]; done) | (exfalso; bv_omega)
  · exact absurd h (not_effect_of_refuses hr)

theorem exec_next_iff : exec i s = .next t ↔ Effect i s t := ⟨effect_of_exec, exec_of_effect⟩

/-- The event that is refused is refused with that verdict, so `Refuses` is exactly what `exec` refuses. -/
theorem exec_of_refuses {v : Verdict} (h : Refuses i s v) : exec i s = .refused (.verdict v) := by
  rcases exec_effect_or_refuses i s with ⟨u, -, he⟩ | ⟨v', hv, hr⟩
  · exact absurd he (not_effect_of_refuses h)
  · rw [hv]
    cases h <;> cases hr <;> first | rfl | simp_all

/-- What one step can do (00_scope.md R7, 30_encoding.md R76). -/
theorem step_cases (s : State) :
    (s.events = [] ∧ step s = .next s) ∨
    ∃ w rest, s.events = w :: rest ∧
      ((∃ e, decode w = .error e ∧ step s = .next (State.record .reservedWord { s with events := rest })) ∨
       (∃ i t, decode w = .ok i ∧ Effect i { s with events := rest } t ∧ step s = .next t) ∨
       (∃ i v, decode w = .ok i ∧ Refuses i { s with events := rest } v ∧
          step s = .next (State.record v { s with events := rest }))) := by
  rcases he : s.events with _ | ⟨w, rest⟩
  · exact .inl ⟨rfl, by simp [step, fetch_of_empty he, idle]⟩
  · refine .inr ⟨w, rest, rfl, ?_⟩
    have hs : step s = settle { s with events := rest } (performWord w { s with events := rest }) := by
      simp only [step, fetch_of_cons he]
    cases hd : decode w with
    | error e => exact .inl ⟨e, rfl, by rw [hs]; simp [performWord, hd, refuseWord]⟩
    | ok i =>
      rcases exec_effect_or_refuses i { s with events := rest } with ⟨t, ht, hE⟩ | ⟨v, hv, hR⟩
      · exact .inr (.inl ⟨i, t, rfl, hE, by rw [hs]; simp [performWord, hd, ht]⟩)
      · exact .inr (.inr ⟨i, v, rfl, hR, by rw [hs]; simp [performWord, hd, hv]⟩)

end Sys2Proof.Machine
end

