-- ==== Sys2Proof/Laws/PerInstr.lean ====
section
/-! SUPPORT. Statements made per instruction: `MapRow` says that the instruction is well-formed, that its word is
well-formed, and that exactly its own row of the opcode map (30_encoding.md R72) selects its word. -/

namespace Sys2Proof.Laws.MapRow

/-- The instruction and its row of the opcode map. -/
def Statement (i : Instr) : Prop :=
  i.wellFormed = true ∧ wordWellFormed (encode i) = true ∧
    (opcodeMap.filter (·.selects (encode i))).map OpcodeRow.instr = [i]

theorem init : Statement .init := by unfold Statement; decide
theorem pulse : Statement .pulse := by unfold Statement; decide
theorem tick : Statement .tick := by unfold Statement; decide
theorem pwmclk : Statement .pwmclk := by unfold Statement; decide
theorem sample : Statement .sample := by unfold Statement; decide
theorem svc : Statement .svc := by unfold Statement; decide

end Sys2Proof.Laws.MapRow
end

