-- ==== Sys2Proof/Laws/Run.lean ====
section
/-! SUPPORT. Lemmas about runs of events: the small lemmas of `perform`, `after` and `tally`. -/

namespace Sys2Proof.Machine

variable {s t : State} {i : Instr}

theorem perform_of_effect (h : Effect i s t) : perform i s = t := by simp [perform, exec_of_effect h]

/-- What one event does to the state: its effect, or the record of its refusal. -/
theorem perform_cases (i : Instr) (s : State) :
    Effect i s (perform i s) ∨ ∃ v, Refuses i s v ∧ perform i s = s.record v := by
  rcases exec_effect_or_refuses i s with ⟨t, ht, hE⟩ | ⟨v, hv, hR⟩
  · exact .inl (by rwa [perform_of_effect hE])
  · exact .inr ⟨v, hR, by simp [perform, hv]⟩

theorem perform_of_refuses {v : Verdict} (h : Refuses i s v) : perform i s = s.record v := by
  simp [perform, exec_of_refuses h]

/-- A step on a word that decodes is the event performed in the state without that word. -/
theorem step_of_decode {w : Byte} {rest : List Byte} (he : s.events = w :: rest) (hd : decode w = .ok i) :
    step s = .next (perform i { s with events := rest }) := by
  have hs : step s = settle { s with events := rest } (exec i { s with events := rest }) := by
    simp only [step, fetch_of_cons he, performWord, hd]
  rcases exec_effect_or_refuses i { s with events := rest } with ⟨t, ht, -⟩ | ⟨v, hv, -⟩
  · rw [hs, perform, ht]; rfl
  · rw [hs, perform, hv]; rfl

@[simp] theorem after_nil (s : State) : s.after [] = s := rfl

@[simp] theorem after_cons (s : State) (i : Instr) (l : List Instr) : s.after (i :: l) = (perform i s).after l := rfl

theorem after_append (s : State) (l l' : List Instr) : s.after (l ++ l') = (s.after l).after l' := by
  simp [State.after, List.foldl_append]

@[simp] theorem tally_nil (f : Instr → State → Nat) (s : State) : tally f s [] = 0 := rfl

@[simp] theorem tally_cons (f : Instr → State → Nat) (s : State) (i : Instr) (l : List Instr) :
    tally f s (i :: l) = f i s + tally f (perform i s) l := rfl

theorem tally_append (f : Instr → State → Nat) (s : State) (l l' : List Instr) :
    tally f s (l ++ l') = tally f s l + tally f (s.after l) l' := by
  induction l generalizing s with
  | nil => simp
  | cons i l ih => simp [ih, Nat.add_assoc]

theorem closesGate_iff :
    closesGate i s = true ↔
      i = .svc ∧ s.initialised = true ∧ s.ovfPend = false ∧ s.tickPend = true ∧ s.downcnt = 1#8 := by
  constructor
  · intro h
    simp [closesGate, servesTick] at h
    tauto
  · rintro ⟨rfl, h1, h2, h3, h4⟩
    simp [closesGate, servesTick, h1, h2, h3, h4, downcntInRange_iff]

theorem servesTick_iff :
    servesTick i s = true ↔
      i = .svc ∧ s.initialised = true ∧ s.ovfPend = false ∧ s.tickPend = true ∧
        1 ≤ s.downcnt.toNat ∧ s.downcnt.toNat ≤ 200 := by
  simp only [servesTick, Bool.and_eq_true, downcntInRange_iff, beq_iff_eq, Bool.not_eq_true']
  tauto

theorem servesOverflow_iff :
    servesOverflow i s = true ↔ i = .svc ∧ s.initialised = true ∧ s.ovfPend = true := by
  simp [servesOverflow, and_assoc]

@[simp] theorem requests_overflow (s : State) : s.requests .overflow = s.ovfPend := rfl

@[simp] theorem requests_tick (s : State) : s.requests .tick = s.tickPend := rfl

@[simp] theorem serves_overflow (i : Instr) (s : State) : serves .overflow i s = servesOverflow i s := rfl

@[simp] theorem serves_tick (i : Instr) (s : State) : serves .tick i s = servesTick i s := rfl

@[simp] theorem stateAt_zero (e : Nat → Instr) (s : State) : stateAt e s 0 = s := rfl

@[simp] theorem stateAt_succ (e : Nat → Instr) (s : State) (n : Nat) :
    stateAt e s (n + 1) = perform (e n) (stateAt e s n) := rfl

/-- How one event can take a request bit from 1 to 0: by INIT, or by the service of that source. -/
theorem request_cleared_only_by {src : Source} (h : s.requests src = true) (h' : (perform i s).requests src = false) :
    i = .init ∨ serves src i s = true := by
  rcases perform_cases i s with hE | ⟨v, -, hr⟩
  · generalize perform i s = t at hE h'
    cases src with
    | overflow => cases hE <;> simp_all [servesOverflow]
    | tick =>
      cases hE with
      | svcDecrement hs ho ht h2 h200 => exact .inr (servesTick_iff.2 ⟨rfl, hs, ho, ht, Nat.le_of_lt h2, h200⟩)
      | svcClose hs ho ht h1 => exact .inr (servesTick_iff.2 ⟨rfl, hs, ho, ht, by simp [h1], by simp [h1]⟩)
      | _ => simp_all
  · rw [hr] at h'
    cases src <;> simp_all

/-- A service of a source leaves its request bit 0. -/
theorem request_clear_of_serves {src : Source} (h : serves src i s = true) :
    (perform i s).requests src = false := by
  cases src with
  | overflow =>
    obtain ⟨rfl, hs, ho⟩ := servesOverflow_iff.1 h
    simp [perform_of_effect (.svcOvf hs ho)]
  | tick =>
    obtain ⟨rfl, hs, ho, ht, h1, h200⟩ := servesTick_iff.1 h
    by_cases hd : s.downcnt = 1
    · simp [perform_of_effect (.svcClose hs ho ht hd)]
    · simp [perform_of_effect (.svcDecrement hs ho ht (by bv_omega) h200)]

theorem wrapsRaw_iff :
    wrapsRaw i s = true ↔ i = .pulse ∧ s.initialised = true ∧ s.raw = 0xFFFF#16 := by
  simp [wrapsRaw, and_assoc]

end Sys2Proof.Machine
end

