-- ==== Sys2Proof/Tests/Slice0.lean ====
section
/-! SUPPORT. The model's own tests: small checks on one step, expected values from 95_test_vectors.md and the rules'
own examples (named in each comment), and for every obligation with hypotheses a witness that meets them. -/

namespace Sys2Proof.Tests

open Sys2Proof.Machine

/-- The next state of an answer, if it is one. -/
def nextOf : Result → Option State
  | .next t => some t
  | _ => none

/-- The verdict of an answer, if it is one. -/
def verdictOf : Result → Option Verdict
  | .refused (.verdict v) => some v
  | _ => none

/-- Reset, with the request bits and the downcounter set. -/
def pending (ovf tick : Bool) (d : DownWord) : State := { State.reset with ovfPend := ovf, tickPend := tick, downcnt := d }

/-- A state before the first INIT. -/
def uninit : State := { State.reset with initialised := false }

/-! ### Decoding: the words of 30_encoding.md R72, bit by bit -/

theorem test_decode_init : decode 0b00000001#8 = .ok .init := by decide
theorem test_decode_pulse : decode 0b00000010#8 = .ok .pulse := by decide
theorem test_decode_tick : decode 0b00000011#8 = .ok .tick := by decide
theorem test_decode_pwmclk : decode 0b00000100#8 = .ok .pwmclk := by decide
theorem test_decode_sample : decode 0b00000101#8 = .ok .sample := by decide
theorem test_decode_svc : decode 0b00000110#8 = .ok .svc := by decide
/-- 95_test_vectors.md 2.1. -/
theorem test_decode_reserved : decode 0x00#8 = .error .reservedOp ∧ decode 0x07#8 = .error .reservedOp ∧
    decode 0x08#8 = .error .reservedBitsSet ∧ decode 0x82#8 = .error .reservedBitsSet := by decide
/-- The step runs each word as the first after reset. -/
theorem test_first_word_runs : ∀ i ∈ [Instr.init, .pulse, .tick, .pwmclk, .sample, .svc],
    nextOf (step (State.reset.withFetchWord 8 (encode i).toNat)) = nextOf (exec i State.reset) := by decide

/-! ### Well-formedness: an ill-formed term for each check -/

theorem test_words_ill_formed :
    wordWellFormed 0x00#8 = false ∧ wordWellFormed 0x07#8 = false ∧ wordWellFormed 0x0A#8 = false := by decide
theorem test_trace_ill_formed : traceWellFormed [] = false ∧ traceWellFormed [0x02#8, 0x01#8] = false ∧
    traceWellFormed [0x01#8, 0x07#8] = false ∧ traceWellFormed [0x01#8, 0x02#8] = true := by decide
/-- 93_implementation_defined.md U15: 3 × 7 is no multiple of 10; 0 × 20 is not positive; 256 does not fit 8 bits. -/
theorem test_config_refused : (Params.ofConstants 3 7).accepted = false ∧ (Params.ofConstants 0 20).accepted = false ∧
    (Params.ofConstants 256 20).accepted = false ∧
    (Params.accepted { Config.params with threshold := 102401 }) = false ∧ Config.params.accepted = true := by decide
/-- No instruction can be ill-formed: none has an operand (R73). -/
theorem test_instr_well_formed :
    ∀ i ∈ [Instr.init, .pulse, .tick, .pwmclk, .sample, .svc], i.wellFormed = true := by decide

/-! ### One or two steps per instruction -/

/-- SV4. -/
theorem test_init_sv4 :
    nextOf (exec .init { downcnt := 17#8, raw := 9#16, ovfacc := 65536#32, duty := 200#8, range := true, pwmcnt := 33#8
                         pwmOut := true, ovfPend := true, tickPend := true, initialised := true, events := []
                         refusals := [] }) =
      some { State.reset with pwmcnt := 33#8, pwmOut := true } := by decide
/-- SV5. -/
theorem test_pulse_before_init : verdictOf (exec .pulse uninit) = some .notInitialised := by decide
/-- PC3 and PC4: the wrap sets the bit, and keeps it. -/
theorem test_pulse_wraps : ∀ o ∈ [false, true],
    nextOf (exec .pulse { pending o false 200#8 with raw := 65535#16 }) = some (pending true false 200#8) := by decide
/-- PC2. -/
theorem test_pulse_counts : nextOf (exec .pulse { State.reset with raw := 65534#16 }) =
    some { State.reset with raw := 65535#16 } := by decide
/-- GT1, GT2. -/
theorem test_tick : ∀ p ∈ [false, true],
    nextOf (exec .tick (pending false p 200#8)) = some (pending false true 200#8) := by decide
/-- PW1, PW2. -/
theorem test_pwmclk : (nextOf (exec .pwmclk { State.reset with pwmcnt := 255#8 })).map State.pwmcnt = some 0#8 ∧
    (nextOf (exec .pwmclk State.reset)).map State.pwmcnt = some 1#8 := by decide
/-- The pin after a SAMPLE at this duty and counter. -/
def sampledPin (d : DutyWord) (c : PwmWord) : Option Bool :=
  (nextOf (exec .sample { State.reset with duty := d, pwmcnt := c })).map State.pwmOut
/-- PW3, PW4, PW5, PW6, PW7. -/
theorem test_sample : sampledPin 127#8 127#8 = some true ∧ sampledPin 127#8 128#8 = some false ∧
    sampledPin 0#8 0#8 = some true ∧ sampledPin 0#8 1#8 = some false ∧ sampledPin 255#8 255#8 = some true := by decide
/-- SV2 and PC7. -/
theorem test_svc_overflow :
    nextOf (exec .svc (pending true true 200#8)) = some { pending false true 200#8 with ovfacc := 65536#32 } ∧
    nextOf (exec .svc { pending true false 200#8 with ovfacc := 4294901760#32 }) = some State.reset := by decide
/-- GT3, GT4. -/
theorem test_svc_tick :
    nextOf (exec .svc (pending false true 200#8)) = some (pending false false 199#8) ∧
    nextOf (exec .svc { pending false true 2#8 with raw := 5#16 }) =
      some { pending false false 1#8 with raw := 5#16 } := by decide
/-- GT5, GT6. -/
theorem test_svc_closes :
    nextOf (exec .svc { pending false true 1#8 with raw := 800#16, duty := 9#8, range := true }) =
      some { State.reset with duty := 2#8 } ∧
    nextOf (exec .svc { pending false true 1#8 with raw := 36464#16, ovfacc := 65536#32 }) =
      some { State.reset with duty := 25#8, range := true } := by decide
/-- GT11, GT12. -/
theorem test_svc_out_of_range : ∀ d ∈ [0#8, 201#8],
    verdictOf (exec .svc (pending false true d)) = some .downcntOutOfRange := by decide
/-- 95_test_vectors.md 2.4. -/
theorem test_classify : ∀ v ∈ [(399, 0#8, false), (401, 1#8, false), (51000, 127#8, false), (51200, 128#8, false),
      (65536, 163#8, false), (101999, 254#8, false), (102000, 25#8, true), (104000, 26#8, true),
      (1020000, 255#8, true), (1023999, 255#8, true), (1024000, 0#8, true), (2040000, 254#8, true),
      (4294967295, 77#8, true)],
    classify Config.params (BitVec.ofNat 32 v.1) = v.2 := by decide
/-- P9, its first and third words: refused, recorded, no element changed. -/
theorem test_refusals_recorded :
    nextOf (step { uninit with events := [0x02#8, 0x01#8] }) =
      some { uninit with events := [0x01#8], refusals := [.notInitialised] } ∧
    nextOf (step { State.reset with events := [0x07#8, 0x02#8] }) =
      some { State.reset with events := [0x02#8], refusals := [.reservedWord] } := by decide
/-- R79: REP of a body with TICKSVC; R78: a comment, `.byte` and a blank line. -/
theorem test_trace_text :
    assembleText ("REP 2 ".toList ++ [Char.ofNat 123] ++ " PULSE ; TICKSVC ".toList ++ [Char.ofNat 125]) =
      some [0x02#8, 0x03#8, 0x06#8, 0x02#8, 0x03#8, 0x06#8] ∧
    assembleText "PULSE  # c ; TICK\n\nINIT\n.byte 0x07".toList = some [0x02#8, 0x01#8, 0x07#8] ∧
    assembleText "PULSE PULSE".toList = none ∧ assembleText "pulse".toList = none := by decide

/-- Log 24: empty items are read as nothing, and a line's end before the brace of a REP makes the text no trace. -/
theorem test_trace_text_separators :
    assembleText ";; PULSE ;; TICK ;".toList = some [0x02#8, 0x03#8] ∧
    assembleText ("REP 2\n".toList ++ [Char.ofNat 123] ++ " PULSE ".toList ++ [Char.ofNat 125]) = none := by decide

/-! ### Witnesses: states and operands that meet each obligation's hypotheses, every clause at a boundary -/

theorem witness_StepRunsTheDecodedEvent :
    decode 0x02#8 = .ok .pulse ∧ (nextOf (exec .pulse State.reset)).isSome = true ∧
    verdictOf (exec .pulse uninit) = some .notInitialised ∧
    { State.reset with events := [0x02#8] }.events = [0x02#8] := by decide

theorem witness_ReservedWordIsRecordedAndChangesNothing :
    ∃ (s : State) (w : Byte) (rest : List Byte) (e : Reject), s.events = w :: rest ∧ decode w = .error e :=
  ⟨{ State.reset with events := [0x07#8] }, 0x07#8, [], .reservedOp, by decide⟩

theorem witness_NoEventNoChange : State.reset.events = [] := by decide

theorem witness_OnlyInitRunsBeforeTheFirstInit :
    ∃ (s : State) (i : Instr) (rest : List Byte), s.initialised = false ∧ i ≠ .init ∧ s.events = encode i :: rest :=
  ⟨{ uninit with events := [0x06#8] }, .svc, [], by decide⟩

theorem witness_ResetIsTheStateAfterInit :
    ∃ s : State, s.pwmcnt = 0#8 ∧ s.pwmOut = false ∧ s.events = [] ∧ s.refusals = [] ∧ s ≠ State.reset :=
  ⟨uninit, by decide⟩

theorem witness_OutputsBeforeTheFirstClosure :
    Instr.init ∉ [Instr.pulse, .tick, .svc] ∧ ticksServed (uninit.after [.init]) [.pulse, .tick, .svc] < 200 := by decide

theorem witness_SecondWrapLosesOneQuantum :
    ∃ s : State, s.initialised = true ∧ s.ovfPend = true ∧ s.raw = 65535#16 :=
  ⟨{ pending true false 200#8 with raw := 65535#16 }, by decide⟩

/-- The requests pending one at a time, both, and none; also for the overflow service and the four cases of SVC. -/
theorem witness_ServiceServesOneSourceOverflowFirst : ∀ o ∈ [false, true], ∀ t ∈ [false, true], ∀ d ∈ [1#8, 200#8],
    (pending o t d).initialised = true ∧ 1 ≤ (pending o t d).downcnt.toNat ∧ (pending o t d).downcnt.toNat ≤ 200 ∧
      (pending o t d).ovfPend = o ∧ (pending o t d).tickPend = t := by decide

/-- For the statements on PULSE, TICK, PWMCLK, SAMPLE and SVC.OVF: an initialised state with each request pattern. -/
theorem witness_initialised_states : State.reset.initialised = true ∧
    (pending true false 200#8).ovfPend = true ∧ (pending true true 200#8).initialised = true := by decide

theorem witness_EffectiveCountIsTheWideSum :
    (pending false true 1#8).initialised = true ∧ (pending false true 1#8).ovfPend = false ∧
    (pending false true 1#8).tickPend = true ∧ (pending false true 1#8).downcnt = 1#8 ∧
    { State.reset with ovfacc := 4294901760#32, raw := 65535#16 }.ovfacc.toNat % 65536 = 0 ∧
    4294901760 + 65535 < 2 ^ 32 := by decide

theorem witness_TickServiceWithoutClosure : ∀ d ∈ [2#8, 200#8],
    (pending false true d).initialised = true ∧ (pending false true d).ovfPend = false ∧
    (pending false true d).tickPend = true ∧ 2 ≤ (pending false true d).downcnt.toNat ∧
    (pending false true d).downcnt.toNat ≤ 200 := by decide

theorem witness_MergedTicksDecrementOnce : ∀ d ∈ [2#8, 200#8],
    (pending false false d).initialised = true ∧ (pending false false d).ovfPend = false ∧
    2 ≤ (pending false false d).downcnt.toNat ∧ (pending false false d).downcnt.toNat ≤ 200 := by decide

/-- Also for HighRangeIsTheInclusiveThreshold's second clause. -/
theorem witness_GateClosureLatchesClassifiesAndReloads :
    ∃ s : State, s.initialised = true ∧ s.ovfPend = false ∧ s.tickPend = true ∧ s.downcnt = 1#8 :=
  ⟨pending false true 1#8, by decide⟩

theorem witness_TickServiceOutOfRangeIsRefused : ∀ d ∈ [0#8, 201#8, 255#8],
    (pending false true d).initialised = true ∧ (pending false true d).ovfPend = false ∧
    (pending false true d).tickPend = true ∧
    ((pending false true d).downcnt.toNat = 0 ∨ 200 < (pending false true d).downcnt.toNat) := by decide

theorem witness_GateWindowIsTwoHundredServedTicks :
    State.reset.initialised = true ∧ State.reset.downcnt = 200#8 ∧ Instr.init ∉ [Instr.tick, .svc] ∧
    ticksServed State.reset [.tick, .svc] = 1 := by decide

theorem inv_reset_state : Inv State.reset := fun _ => ⟨by decide, by decide, 0#32, by decide⟩

theorem witness_TicksServedInTimeAreAllServed :
    Inv State.reset ∧ State.reset.initialised = true ∧ Instr.init ∉ [Instr.tick, .svc, .tick] ∧
    ticksServedInTime State.reset [.tick, .svc, .tick] = true :=
  ⟨inv_reset_state, by decide⟩

/-- A PULSE that does not wrap, one that wraps, INIT, a closure, and an SVC.OVF that moves a quantum. -/
theorem witness_TrueCountMovesOnlyByPulses :
    (∀ i ∈ [Instr.pulse, .init, .tick], (nextOf (exec i { State.reset with raw := 65535#16 })).isSome = true) ∧
    closesGate .svc (pending false true 1#8) = true ∧ (nextOf (exec .svc (pending false true 1#8))).isSome = true ∧
    closesGate .svc (pending true true 1#8) = false ∧ (nextOf (exec .svc (pending true true 1#8))).isSome = true ∧
    { pending true true 1#8 with raw := 65535#16 }.trueCount < 2 ^ 32 := by decide

theorem witness_EffectiveCountIsTheNumberOfPulses :
    State.reset.initialised = true ∧ State.reset.raw = 0#16 ∧ State.reset.ovfacc = 0#32 ∧ State.reset.ovfPend = false ∧
    Instr.init ∉ [Instr.pulse, .pulse] ∧ gateClosures State.reset [.pulse, .pulse] = 0 ∧
    wrapsServedInTime State.reset [.pulse, .pulse] = true ∧ (State.reset.after [.pulse, .pulse]).ovfPend = false ∧
    [Instr.pulse, .pulse].count .pulse < 2 ^ 32 := by decide

/-- A run with a wrap, its service, and a closure. -/
theorem witness_NoPulseIsLostAcrossClosures :
    let s := { pending false true 1#8 with raw := 65535#16 }
    s.initialised = true ∧ Instr.init ∉ [Instr.pulse, .svc, .svc, .pulse] ∧
    wrapsServedInTime s [.pulse, .svc, .svc, .pulse] = true ∧ gateClosures s [.pulse, .svc, .svc, .pulse] = 1 ∧
    s.trueCount + [Instr.pulse, .svc, .svc, .pulse].count .pulse < 2 ^ 32 := by decide

theorem witness_classifier_counts :
    (1 ≤ (399#32).toNat ∧ (399#32).toNat ≤ 399) ∧ (101999#32).toNat < 102000 ∧
    (102000 ≤ (102000#32).toNat ∧ (102000#32).toNat < 1024000) ∧
    (102000 ≤ (1023999#32).toNat ∧ (1023999#32).toNat < 1024000) ∧ 1024000 ≤ (1024000#32).toNat := by decide

theorem witness_LowRangeFitsExactlyUpTo256Divisors : ∀ th ∈ [0, 102400, 102401],
    0 < (Params.divLow { Config.params with threshold := th }) ∧ th ≤ 2 ^ 32 := by decide

theorem witness_DutyIsMonotonicWithinARange :
    ((0#32).toNat ≤ (101999#32).toNat ∧ (101999#32).toNat < 1024000 ∧
      (classify Config.params 0#32).2 = (classify Config.params 101999#32).2) ∧
    ((102000#32).toNat ≤ (1023999#32).toNat ∧ (1023999#32).toNat < 1024000 ∧
      (classify Config.params 102000#32).2 = (classify Config.params 1023999#32).2) := by decide

theorem witness_PinHoldsItsLevelBetweenSamples : Instr.sample ∉ [Instr.init, .pwmclk, .svc] := by decide

theorem witness_SampleReadsOnlyDutyAndCounter :
    ∃ s u : State, s ≠ u ∧ s.initialised = true ∧ u.initialised = true ∧ u.duty = s.duty ∧ u.pwmcnt = s.pwmcnt :=
  ⟨State.reset, { pending true true 3#8 with raw := 7#16, ovfacc := 9#32, range := true, pwmOut := true }, by decide⟩

theorem witness_ServiceWithNothingPendingChangesNothing :
    State.reset.initialised = true ∧ State.reset.ovfPend = false ∧ State.reset.tickPend = false := by decide

/-- A service that completes and leaves DUTY, and one that is refused. -/
theorem witness_ServiceNeverTouchesTheOutputGenerator :
    (nextOf (exec .svc (pending true false 5#8))).map State.duty = some (pending true false 5#8).duty ∧
    verdictOf (exec .svc uninit) = some .notInitialised := by decide

/-- Each bit set by its source and cleared by its own sub-handler and by INIT. -/
theorem witness_PendingBitsHaveTheirOwnSettersAndClearers :
    (nextOf (exec .tick State.reset)).map State.tickPend = some true ∧
    (nextOf (exec .pulse { State.reset with raw := 65535#16 })).map State.ovfPend = some true ∧
    (nextOf (exec .svc (pending false true 9#8))).map State.tickPend = some false ∧
    (nextOf (exec .svc (pending true false 9#8))).map State.ovfPend = some false ∧
    (nextOf (exec .init (pending true true 9#8))).map State.irq = some false := by decide

theorem witness_IrqIsOneExactlyWhenServiceHasWork :
    State.reset.irq = false ∧ (pending true false 9#8).irq = true ∧ (pending false true 9#8).initialised = true := by decide

/-- Services only, from one pending tick: the tick is served at once and nothing is pending from then on. -/
theorem services_only_settle (m : Nat) :
    stateAt (fun _ => .svc) (pending false true 200#8) (m + 1) = pending false false 199#8 := by
  induction m with
  | zero => decide
  | succ m ih => rw [stateAt, ih]; decide

/-- A run of services only, from a state with an overflow pending, and from one with a tick pending and no overflow. -/
theorem witness_FairServiceClearsEveryRequest :
    let e : Nat → Instr := fun _ => .svc
    (∃ s, s.initialised = true ∧ Inv s ∧ ServiceFair e s ∧ (stateAt e s 0).ovfPend = true) ∧
    (∃ s, s.initialised = true ∧ Inv s ∧ ServiceFair e s ∧ (stateAt e s 0).tickPend = true ∧
      ∀ m, 0 ≤ m → (stateAt e s m).ovfPend = false) := by
  have hs : ∀ s, ServiceFair (fun _ => .svc) s := fun s n _ => ⟨n, le_refl n, rfl⟩
  refine ⟨⟨pending true false 200#8, by decide, fun _ => ⟨by decide, by decide, 0#32, by decide⟩, hs _, by decide⟩,
    ⟨pending false true 200#8, by decide, fun _ => ⟨by decide, by decide, 0#32, by decide⟩, hs _, by decide, ?_⟩⟩
  intro m _
  cases m with
  | zero => decide
  | succ m => rw [services_only_settle m]; decide

/-- A weakly fair run with a request pending. -/
theorem witness_FairRunServesEveryRequestOrInitDiscardsIt :
    let e : Nat → Instr := fun _ => .svc
    ∃ s, WeaklyFair e s ∧ (stateAt e s 0).requests .tick = true := by
  refine ⟨pending false true 200#8, fun src n h => ?_, by decide⟩
  have := h (n + 1) (Nat.le_succ n)
  rw [services_only_settle n] at this
  cases src <;> exact absurd this (by decide)

theorem witness_TickAndPulseCommute :
    ∃ s : State, s.initialised = true ∧ s.raw = 65535#16 :=
  ⟨{ State.reset with raw := 65535#16 }, by decide⟩

theorem witness_PulseAtTheBoundaryFallsInOneWindow :
    let s := { pending false true 1#8 with raw := 65534#16, ovfacc := 4294901760#32 }
    closesGate .svc s = true ∧ s.raw ≠ 65535#16 ∧ s.ovfacc.toNat + s.raw.toNat + 1 < 2 ^ 32 := by decide

theorem witness_SampleAndOverflowServiceCommute : (pending true false 200#8).ovfPend = true := by decide

/-- Every element is changed by some completing event. -/
theorem witness_EveryElementHasOnlyItsWriters :
    let s : State := { downcnt := 1#8, raw := 7#16, ovfacc := 65536#32, duty := 9#8, range := true, pwmcnt := 255#8
                       pwmOut := true, ovfPend := true, tickPend := true, initialised := false, events := []
                       refusals := [] }
    (nextOf (exec .init s)).any (fun t => t.downcnt ≠ s.downcnt ∧ t.raw ≠ s.raw ∧ t.ovfacc ≠ s.ovfacc ∧
      t.duty ≠ s.duty ∧ t.range ≠ s.range ∧ t.ovfPend ≠ s.ovfPend ∧ t.tickPend ≠ s.tickPend ∧
      t.initialised ≠ s.initialised) = true ∧
    (nextOf (exec .pwmclk { s with initialised := true })).any (fun t => t.pwmcnt ≠ s.pwmcnt) = true ∧
    (nextOf (exec .sample { s with initialised := true })).any (fun t => t.pwmOut ≠ s.pwmOut) = true := by decide

theorem witness_EveryStepKeepsTheInvariant :
    ∃ s s' : State, Inv s ∧ step s = .next s' ∧ s ≠ s' :=
  ⟨{ State.reset with events := [0x02#8] }, { State.reset with raw := 1#16 },
    fun _ => ⟨by decide, by decide, 0#32, by decide⟩, rfl, by decide⟩

theorem witness_EveryEventCompletesAfterInit : ∃ s : State, Inv s ∧ s.initialised = true :=
  ⟨State.reset, inv_reset_state, by decide⟩

theorem witness_WellFormedTraceIsNeverRefused : traceWellFormed [0x01#8, 0x03#8, 0x06#8] = true := by decide

theorem witness_ConfigurationFollowsFromTwoConstants : (Params.ofConstants 200 20).accepted = true := by decide

end Sys2Proof.Tests
end

section
/-! The gate timer's obligations (40_gate_timer.md). -/

namespace Sys2Proof.Machine

/-- The downcounter's subtraction on words is R102's subtraction on numbers, as long as it does not borrow. -/
theorem downcnt_sub_one_eq_ofNat {d : DownWord} (h : 1 ≤ d.toNat) : d - 1 = BitVec.ofNat 8 (d.toNat - 1) := by
  bv_omega

/-- Settles O22: an initialised service with only the tick pending and DOWNCNT in 2 to 200 is the effect
`svcDecrement`, whose two writes are TICK_PEND and DOWNCNT. -/
theorem tickServiceWithoutClosure : Obligations.TickServiceWithoutClosure := by
  intro s hinit hovf htick h2 h200
  have hexec : exec .svc s = .next (s.clearTick.setDowncnt (s.downcnt - 1)) :=
    exec_of_effect (.svcDecrement hinit hovf htick h2 h200)
  rw [hexec, downcnt_sub_one_eq_ofNat (Nat.le_of_lt h2)]
  simp only [State.clearTick, State.setDowncnt]

end Sys2Proof.Machine
end

section
/-! The classifier's obligation on zero input (42_classifier.md section 3). -/

namespace Sys2Proof.Machine

/-- A count below `DIV_LOW` is below the threshold too, so the low divisor applies and the floor quotient is 0. -/
theorem classify_of_lt_divLow {count : AccWord} (h : count.toNat < 400) :
    classify Config.params count = (0#8, false) := by
  have hlow : ¬ 102000 ≤ count.toNat := by omega
  apply Prod.ext
  · rw [classify_fst, if_neg hlow, Nat.div_eq_of_lt h]
  · rw [classify_snd, decide_eq_false hlow]

/-- Settles O32: 0 and the counts 1 to 399 are all below `DIV_LOW = 400`. -/
theorem zeroCountGivesZeroDuty : Obligations.ZeroCountGivesZeroDuty := by
  refine ⟨classify_of_lt_divLow (by decide), fun count _ h399 => ?_⟩
  rw [classify_of_lt_divLow (Nat.lt_succ_of_le h399)]

end Sys2Proof.Machine
end

section
/-! Noninterference of SVC with the output generator (45_service_and_init.md section 1, R185). -/

namespace Sys2Proof.Machine

variable {s t : State} {v : Verdict} {c : PwmWord} {b : Bool}

/-- The state with the output generator's own two elements, PWMCNT and PWM_OUT, replaced. -/
def State.withGenerator (c : PwmWord) (b : Bool) (s : State) : State := { s with pwmcnt := c, pwmOut := b }

/-! Each update that an SVC makes commutes with the replacement. -/

theorem State.clearOvf_withGenerator : (s.withGenerator c b).clearOvf = s.clearOvf.withGenerator c b := rfl

theorem State.addQuantum_withGenerator (p : Params) :
    (s.withGenerator c b).addQuantum p = (s.addQuantum p).withGenerator c b := rfl

theorem State.clearTick_withGenerator : (s.withGenerator c b).clearTick = s.clearTick.withGenerator c b := rfl

theorem State.setDowncnt_withGenerator (d : DownWord) :
    (s.withGenerator c b).setDowncnt d = (s.setDowncnt d).withGenerator c b := rfl

theorem State.gateClose_withGenerator (p : Params) :
    (s.withGenerator c b).gateClose p = (s.gateClose p).withGenerator c b := rfl

/-- A completing SVC writes neither element of the output generator, and leaves the mark that INIT has happened. -/
theorem effect_svc_frame (h : Effect .svc s t) :
    t.pwmcnt = s.pwmcnt ∧ t.pwmOut = s.pwmOut ∧ s.initialised = true ∧ t.initialised = true := by
  cases h with
  | svcOvf hinit | svcDecrement hinit | svcClose hinit | svcIdle hinit => simp [hinit]

/-- A completing SVC reads neither element: each of its four ways is open whatever they hold, with the same effect. -/
theorem effect_svc_withGenerator (h : Effect .svc s t) :
    Effect .svc (s.withGenerator c b) (t.withGenerator c b) := by
  cases h with
  | svcOvf hinit hovf =>
    rw [← State.addQuantum_withGenerator, ← State.clearOvf_withGenerator]
    exact .svcOvf hinit hovf
  | svcDecrement hinit hovf htick h2 h200 =>
    rw [← State.setDowncnt_withGenerator, ← State.clearTick_withGenerator]
    exact .svcDecrement hinit hovf htick h2 h200
  | svcClose hinit hovf htick h1 =>
    rw [← State.gateClose_withGenerator, ← State.clearTick_withGenerator]
    exact .svcClose hinit hovf htick h1
  | svcIdle hinit hovf htick => exact .svcIdle hinit hovf htick

/-- A refused SVC reads neither element: it is refused with the same verdict whatever they hold. -/
theorem refuses_svc_withGenerator (h : Refuses .svc s v) : Refuses .svc (s.withGenerator c b) v := by
  cases h with
  | notInitialised hinit hne => exact .notInitialised hinit hne
  | downcntOutOfRange hinit hovf htick hrange => exact .downcntOutOfRange hinit hovf htick hrange

/-- The comparator sees nothing of the state but PWMCNT and DUTY (43_pwm_output.md R162). -/
theorem pwmCmp_congr (hcnt : t.pwmcnt = s.pwmcnt) (hduty : t.duty = s.duty) : t.pwmCmp = s.pwmCmp := by
  rw [State.pwmCmp, State.pwmCmp, hcnt, hduty]

/-- Settles O44: the first three clauses are the frame of `Effect .svc` and its (and the refusals') commuting with
`withGenerator`; the fourth is that SAMPLE drives the comparator's level, which PWMCNT and DUTY alone decide. -/
theorem serviceNeverTouchesTheOutputGenerator : Obligations.ServiceNeverTouchesTheOutputGenerator := by
  refine ⟨fun s t hsvc => ?_, fun s t c b hsvc => ?_, fun s c b q hsvc => ?_, fun s t hsvc hduty => ?_⟩
  · obtain ⟨hcnt, hout, -, -⟩ := effect_svc_frame (effect_of_exec hsvc)
    exact ⟨hcnt, hout⟩
  · exact exec_of_effect (effect_svc_withGenerator (effect_of_exec hsvc))
  · obtain ⟨v, rfl, hrefuses⟩ := refuses_of_exec hsvc
    exact exec_of_refuses (refuses_svc_withGenerator hrefuses)
  · obtain ⟨hcnt, -, hs, ht⟩ := effect_svc_frame (effect_of_exec hsvc)
    have hlevel : t.pwmCmp = s.pwmCmp := pwmCmp_congr hcnt hduty
    refine ⟨s.pwmCmp, exec_of_effect (.sample hs), ?_⟩
    rw [← hlevel]
    exact exec_of_effect (.sample ht)

end Sys2Proof.Machine
end

section
/-! The encoding's obligations (30_encoding.md): the decoder field by field, words, traces, trace text. -/

namespace Sys2Proof

theorem rsvField_toNat (w : Byte) : (rsvField w).toNat = w.toNat / 8 := by
  rw [rsvField, BitVec.extractLsb'_toNat, Nat.shiftRight_eq_div_pow]
  omega

theorem opField_toNat (w : Byte) : (opField w).toNat = w.toNat % 8 := by
  rw [opField, BitVec.extractLsb'_toNat]
  rfl

theorem rsvField_eq_zero_iff (w : Byte) : rsvField w = 0 ↔ w.toNat / 8 = 0 := by
  rw [← rsvField_toNat, ← BitVec.toNat_inj]
  rfl

theorem decodeOp_eq_none_iff (op : BitVec 3) : decodeOp op = none ↔ op.toNat = 0 ∨ op.toNat = 7 := by
  revert op; decide

theorem decode_of_rsvField_ne {w : Byte} (h : rsvField w ≠ 0) : decode w = .error .reservedBitsSet := if_pos h

theorem decode_of_decodeOp_none {w : Byte} (hrsv : rsvField w = 0) (hop : decodeOp (opField w) = none) :
    decode w = .error .reservedOp := by
  simp [decode, hrsv, hop]

theorem decode_of_decodeOp_some {w : Byte} {i : Instr} (hrsv : rsvField w = 0) (hop : decodeOp (opField w) = some i) :
    decode w = .ok i := by
  simp [decode, hrsv, hop]

/-- A word is rejected when one of the two conditions that R74 puts on its fields fails. -/
theorem decode_error_iff_fields {w : Byte} :
    (∃ e, decode w = .error e) ↔ rsvField w ≠ 0 ∨ decodeOp (opField w) = none := by
  by_cases hrsv : rsvField w = 0
  · cases hop : decodeOp (opField w) with
    | none => simp [decode_of_decodeOp_none hrsv hop]
    | some i => simp [decode_of_decodeOp_some hrsv hop, hrsv]
  · simp only [decode_of_rsvField_ne hrsv, Ne, hrsv, not_false_eq_true, true_or, iff_true]
    exact ⟨_, rfl⟩

@[simp] theorem decode_encode (i : Instr) : decode (encode i) = .ok i := by
  cases i <;> decide

/-- Settles O2: of the 256 words each operation's own is the only one that the decoder reads as it. -/
theorem wordDecodesExactlyToItsOperation : Obligations.WordDecodesExactlyToItsOperation := by
  intro w i
  constructor
  · intro h
    revert w
    cases i <;> decide
  · rintro rfl
    exact decode_encode i

/-- Settles O1: each word is its operation's `encode`, and the reserved neighbours are evaluated. -/
theorem sixWordsDecodeAsTheOpcodeMapSays : Obligations.SixWordsDecodeAsTheOpcodeMapSays :=
  ⟨decode_encode .init, decode_encode .pulse, decode_encode .tick, decode_encode .pwmclk, decode_encode .sample,
    decode_encode .svc, by decide⟩

/-- The rejected words by their number: `w div 8` and `w mod 8` are the two fields. -/
theorem decode_error_iff (w : Byte) :
    (∃ e, decode w = .error e) ↔ w.toNat / 8 ≠ 0 ∨ w.toNat % 8 = 0 ∨ w.toNat % 8 = 7 := by
  rw [decode_error_iff_fields, Ne, rsvField_eq_zero_iff, decodeOp_eq_none_iff, opField_toNat]

theorem decodeTableWord_eq_none_of_seven_le {n : Nat} (h7 : 7 ≤ n) (h256 : n < 256) : decodeTableWord 8 n = none := by
  have hn : (tableWord 8 n).toNat = n := by simp [tableWord, Nat.mod_eq_of_lt h256]
  obtain ⟨e, he⟩ := (decode_error_iff (tableWord 8 n)).2 (by omega)
  rw [decodeTableWord, he]

/-- Settles O3: of the words below 7 one is rejected, and from 7 on all 249 are. -/
theorem reservedWordsAreExactlyTheOther250 : Obligations.ReservedWordsAreExactlyTheOther250 := by
  refine ⟨decode_error_iff, ?_⟩
  have hrest : ((List.range 249).map (7 + ·)).filter (fun n => decodeTableWord 8 n = none) =
      (List.range 249).map (7 + ·) := by
    rw [List.filter_eq_self]
    intro n hn
    obtain ⟨k, hk, rfl⟩ := List.mem_map.1 hn
    have := List.mem_range.1 hk
    exact decide_eq_true (decodeTableWord_eq_none_of_seven_le (by omega) (by omega))
  have hfirst : (List.range 7).filter (fun n => decodeTableWord 8 n = none) = [0] := by decide
  rw [show 256 = 7 + 249 from rfl, List.range_add, List.filter_append, hrest, hfirst]
  simp

/-- Settles O4, by induction on the bytes: each word is the encoding of the event it decodes to. -/
theorem traceDecodesExactlyToItsAssembly : Obligations.TraceDecodesExactlyToItsAssembly := by
  intro ws
  induction ws with
  | nil => intro t; cases t <;> simp [decodeTrace, assemble]
  | cons w ws ih =>
    intro t
    constructor
    · intro h
      cases hw : decode w with
      | error e => simp [decodeTrace, hw] at h
      | ok i =>
        cases hws : decodeTrace ws with
        | error e => simp [decodeTrace, hw, hws] at h
        | ok t' =>
          obtain rfl : i :: t' = t := by simpa [decodeTrace, hw, hws] using h
          rw [(wordDecodesExactlyToItsOperation w i).1 hw, (ih t').1 hws]
          rfl
    · intro h
      cases t with
      | nil => simp [assemble] at h
      | cons i t =>
        obtain ⟨rfl, hws⟩ : w = encode i ∧ ws = assemble t := by simpa [assemble] using h
        simp [decodeTrace, (ih t).2 hws]

/-- A word that passes the well-formedness check is some operation's word (R74, R76). -/
theorem exists_encode_of_wordWellFormed {w : Byte} (h : wordWellFormed w = true) : ∃ i, w = encode i := by
  obtain ⟨⟨hrsv, h0⟩, h7⟩ : (rsvField w = 0 ∧ opField w ≠ 0) ∧ opField w ≠ 7 := by simpa [wordWellFormed] using h
  cases hop : decodeOp (opField w) with
  | none =>
    rcases (decodeOp_eq_none_iff _).1 hop with h | h
    · exact absurd (BitVec.eq_of_toNat_eq h) h0
    · exact absurd (BitVec.eq_of_toNat_eq h) h7
  | some i => exact ⟨i, (wordDecodesExactlyToItsOperation w i).1 (decode_of_decodeOp_some hrsv hop)⟩

/-- A sequence of well-formed words is the assembly of some events. -/
theorem exists_assemble_of_wordsWellFormed {ws : List Byte} (h : ∀ w ∈ ws, wordWellFormed w = true) :
    ∃ t, ws = assemble t := by
  induction ws with
  | nil => exact ⟨[], rfl⟩
  | cons w ws ih =>
    obtain ⟨hw, hws⟩ := List.forall_mem_cons.1 h
    obtain ⟨i, rfl⟩ := exists_encode_of_wordWellFormed hw
    obtain ⟨t, rfl⟩ := ih hws
    exact ⟨i :: t, rfl⟩

/-- A well-formed trace is the assembly of INIT and some events (70_reset_and_hazards.md R242). -/
theorem exists_assemble_init_of_traceWellFormed {ws : List Byte} (h : traceWellFormed ws = true) :
    ∃ t, ws = assemble (.init :: t) := by
  obtain ⟨hhead, hall⟩ : ws.head? = some (encode .init) ∧ ∀ w ∈ ws, wordWellFormed w = true := by
    simpa [traceWellFormed, encode] using h
  obtain ⟨rest, rfl⟩ := List.head?_eq_some_iff.1 hhead
  obtain ⟨t, rfl⟩ := exists_assemble_of_wordsWellFormed (List.forall_mem_cons.1 hall).2
  exact ⟨t, rfl⟩

namespace Machine

theorem hexDigit_eq_getD {n : Nat} (h : n < 16) : hexDigit n = "0123456789ABCDEF".toList.getD n ' ' := by
  revert n; decide

theorem disassemble_encode (i : Instr) : disassemble (encode i) = i.mnemonic.toList := by
  rw [disassemble, decode_encode]

theorem disassemble_of_reserved {w : Byte} {e : Reject} (h : decode w = .error e) :
    disassemble w = ".byte 0x".toList ++ [hexDigit (w.toNat / 16), hexDigit (w.toNat % 16)] := by
  rw [disassemble, h]

/-- Settles O5: the text of P1 is assembled by evaluation, and the two hexadecimal digits of a byte are below 16. -/
theorem traceTextAssemblesToItsBytes : Obligations.TraceTextAssemblesToItsBytes := by
  refine ⟨by decide, expand_rep, rfl, ?_, fun w e h => ?_⟩
  · exact List.map_congr_left (f := disassemble ∘ encode) (l := [.init, .pulse, .tick, .pwmclk, .sample, .svc])
      fun i _ => disassemble_encode i
  · rw [disassemble_of_reserved h, hexDigit_eq_getD (by omega), hexDigit_eq_getD (by omega)]

end Machine

end Sys2Proof
end

section
/-! The step and the queue (00_scope.md R7, 30_encoding.md R70 to R76). -/

namespace Sys2Proof.Machine

variable {s t : State} {i : Instr} {v : Verdict} {ws : List Byte}

/-- The state with the words to come replaced (log 1). -/
def State.withEvents (ws : List Byte) (s : State) : State := { s with events := ws }

/-- No effect reads or writes the queue. -/
theorem effect_withEvents (h : Effect i s t) : Effect i (s.withEvents ws) (t.withEvents ws) := by
  cases h with
  | init => exact .init
  | edge hinit hraw => exact .edge (s := s.withEvents ws) hinit hraw
  | wrap hinit hraw => exact .wrap (s := s.withEvents ws) hinit hraw
  | tick hinit => exact .tick (s := s.withEvents ws) hinit
  | pwmclk hinit => exact .pwmclk (s := s.withEvents ws) hinit
  | sample hinit => exact .sample (s := s.withEvents ws) hinit
  | svcOvf hinit hovf => exact .svcOvf (s := s.withEvents ws) hinit hovf
  | svcDecrement hinit hovf htick h2 h200 => exact .svcDecrement (s := s.withEvents ws) hinit hovf htick h2 h200
  | svcClose hinit hovf htick h1 => exact .svcClose (s := s.withEvents ws) hinit hovf htick h1
  | svcIdle hinit hovf htick => exact .svcIdle hinit hovf htick

/-- No refusal reads the queue. -/
theorem refuses_withEvents (h : Refuses i s v) : Refuses i (s.withEvents ws) v := by
  cases h with
  | notInitialised hinit hne => exact .notInitialised hinit hne
  | downcntOutOfRange hinit hovf htick hrange => exact .downcntOutOfRange hinit hovf htick hrange

theorem perform_withEvents (i : Instr) (s : State) (ws : List Byte) :
    perform i (s.withEvents ws) = (perform i s).withEvents ws := by
  rcases perform_cases i s with hE | ⟨v, hR, hr⟩
  · exact perform_of_effect (effect_withEvents hE)
  · rw [hr, perform_of_refuses (refuses_withEvents hR)]
    rfl

/-- A word that is rejected takes one step to the record (R76). -/
theorem step_of_reserved {w : Byte} {e : Reject} (he : s.events = w :: ws) (hd : decode w = .error e) :
    step s = .next ((s.withEvents ws).record .reservedWord) := by
  simp only [step, fetch_of_cons he, performWord, hd, refuseWord, settle_verdict]
  rfl

theorem run_succ_of_step {k : Nat} (h : step s = .next t) :
    Host.Core.run Sys2Proof.core (k + 1) s = Host.Core.run Sys2Proof.core k t := by
  have hcore : Sys2Proof.core.step s = .next t := h
  simp only [Host.Core.run, hcore]

/-- Settles O6: the step is `perform`, whose two ways are the two clauses. -/
theorem stepRunsTheDecodedEvent : Obligations.StepRunsTheDecodedEvent := by
  intro s w rest i he hd
  rw [step_of_decode he hd]
  refine ⟨fun t hexec => ?_, fun v hexec => ?_⟩
  · rw [perform_of_effect (effect_of_exec hexec)]
  · obtain ⟨v', hv, hR⟩ := refuses_of_exec hexec
    cases hv
    rw [perform_of_refuses hR]
    rfl

/-- Settles O7. -/
theorem reservedWordIsRecordedAndChangesNothing : Obligations.ReservedWordIsRecordedAndChangesNothing :=
  fun _ _ _ _ he hd => step_of_reserved he hd

/-- Settles O8. -/
theorem noEventNoChange : Obligations.NoEventNoChange := by
  intro s he
  rw [step, fetch_of_empty he, idle]

/-- Settles O9: each of the four ways of a step answers a next state. -/
theorem everyStepAnswersANextState : Obligations.EveryStepAnswersANextState := by
  intro s
  rcases step_cases s with ⟨-, h⟩ | ⟨w, rest, -, ⟨e, -, h⟩ | ⟨i, t, -, -, h⟩ | ⟨i, v, -, -, h⟩⟩
  all_goals exact ⟨_, h⟩

/-- Settles O10, by induction on the trace: a step performs the first event in the state without its word, and the
events do not see the queue. -/
theorem runOfAnAssembledTraceIsItsEventsInOrder : Obligations.RunOfAnAssembledTraceIsItsEventsInOrder := by
  intro s t rest
  induction t generalizing s with
  | nil => rfl
  | cons i t ih =>
    have hstep : step (s.withEvents (encode i :: (assemble t ++ rest))) =
        .next ((perform i s).withEvents (assemble t ++ rest)) := by
      rw [step_of_decode rfl (decode_encode i), ← perform_withEvents]
      rfl
    exact (run_succ_of_step hstep).trans (ih (perform i s))

/-- Settles O11: the refusal `notInitialised`, and the step that records it. -/
theorem onlyInitRunsBeforeTheFirstInit : Obligations.OnlyInitRunsBeforeTheFirstInit := by
  intro s i hinit hne
  refine ⟨exec_of_refuses (.notInitialised hinit hne), fun rest he => ?_⟩
  have hR : Refuses i (s.withEvents rest) .notInitialised := .notInitialised hinit hne
  exact (step_of_decode he (decode_encode i)).trans (congrArg _ (perform_of_refuses hR))

end Sys2Proof.Machine
end

section
/-! The invariant (10_state.md section 4, 42_classifier.md R150): it holds at reset and every step keeps it. -/

namespace Sys2Proof.Machine

variable {s t : State} {i : Instr} {v : Verdict} {ws : List Byte}

theorem add_quantum_mod {a : AccWord} (h : a.toNat % 65536 = 0) : (a + 65536#32).toNat % 65536 = 0 := by
  rw [BitVec.toNat_add]
  change (a.toNat + 65536) % 2 ^ 32 % 65536 = 0
  omega

/-- Only INIT, SVC.OVF and a closure write OVFACC: 0, one quantum more, 0. -/
theorem ovfacc_multiple_of_effect (h : Effect i s t) (hs : s.initialised = true → s.ovfacc.toNat % 65536 = 0) :
    t.ovfacc.toNat % 65536 = 0 := by
  cases h with
  | init | svcClose => simp
  | svcOvf hinit =>
    rw [State.addQuantum_ovfacc, quantumWord_eq]
    exact add_quantum_mod (hs hinit)
  | edge hinit | wrap hinit | tick hinit | pwmclk hinit | sample hinit | svcDecrement hinit | svcIdle hinit =>
    simpa using hs hinit

/-- Only INIT and a tick service write DOWNCNT: 200, one less than a value of at least 2, 200. -/
theorem downcnt_inRange_of_effect (h : Effect i s t)
    (hs : s.initialised = true → 1 ≤ s.downcnt.toNat ∧ s.downcnt.toNat ≤ 200) :
    1 ≤ t.downcnt.toNat ∧ t.downcnt.toNat ≤ 200 := by
  cases h with
  | init | svcClose => simp
  | svcDecrement _ _ _ h2 h200 =>
    simp only [State.setDowncnt_downcnt]
    constructor <;> bv_omega
  | svcOvf hinit =>
    rw [State.addQuantum_downcnt]
    exact hs hinit
  | edge hinit | wrap hinit | tick hinit | pwmclk hinit | sample hinit | svcIdle hinit => simpa using hs hinit

/-- The two published outputs come from one count (R150). -/
def State.classified (s : State) : Prop := ∃ count : AccWord, classify Config.params count = (s.duty, s.range)

/-- Only INIT and a closure write DUTY and RANGE: as CLASSIFY(0), as CLASSIFY of the latched count. -/
theorem classified_of_effect (h : Effect i s t) (hs : s.initialised = true → s.classified) : t.classified := by
  cases h with
  | init => exact ⟨0#32, zeroCountGivesZeroDuty.1⟩
  | svcClose => exact ⟨s.effectiveCount, rfl⟩
  | svcOvf hinit =>
    rw [State.classified, State.addQuantum_duty, State.addQuantum_range]
    exact hs hinit
  | edge hinit | wrap hinit | tick hinit | pwmclk hinit | sample hinit | svcDecrement hinit | svcIdle hinit =>
    simpa [State.classified] using hs hinit

/-- An event completes in an initialised state, or is INIT: the state after it is initialised. -/
theorem initialised_of_effect (h : Effect i s t) : t.initialised = true := by
  cases h with
  | init => simp
  | svcOvf hinit => rwa [State.addQuantum_initialised]
  | edge hinit | wrap hinit | tick hinit | pwmclk hinit | sample hinit | svcDecrement hinit | svcClose hinit
  | svcIdle hinit => simpa using hinit

theorem inv_of_effect (h : Effect i s t) (hs : Inv s) : Inv t := by
  intro _
  refine ⟨downcnt_inRange_of_effect h fun hinit => ?_, ovfacc_multiple_of_effect h fun hinit => ?_,
    classified_of_effect h fun hinit => ?_⟩
  all_goals obtain ⟨hdowncnt, hovfacc, hclassified⟩ := hs hinit
  · exact hdowncnt
  · exact hovfacc
  · exact hclassified

/-- A refusal changes no element, so the invariant does not see the record. -/
theorem inv_record (hs : Inv s) : Inv (s.record v) := hs

theorem inv_withEvents (hs : Inv s) : Inv (s.withEvents ws) := hs

theorem downcnt_inRange_of_inv (hs : Inv s) (hinit : s.initialised = true) :
    1 ≤ s.downcnt.toNat ∧ s.downcnt.toNat ≤ 200 := by
  obtain ⟨hrange, -, -⟩ := hs hinit
  exact hrange

/-- Once initialised and in the invariant nothing is refused. -/
theorem not_refuses_of_inv (hs : Inv s) (hinit : s.initialised = true) : ¬ Refuses i s v := by
  intro h
  cases h with
  | notInitialised hnot => simp [hinit] at hnot
  | downcntOutOfRange _ _ _ hrange => exact hrange (downcnt_inRange_of_inv hs hinit)

theorem effect_perform_of_inv (i : Instr) (hs : Inv s) (hinit : s.initialised = true) : Effect i s (perform i s) := by
  rcases perform_cases i s with hE | ⟨v, hR, -⟩
  · exact hE
  · exact absurd hR (not_refuses_of_inv hs hinit)

/-- Settles O53: the queue and the record are outside the invariant, and every effect keeps it. -/
theorem everyStepKeepsTheInvariant : Obligations.EveryStepKeepsTheInvariant := by
  intro s s' hs hstep
  rcases step_cases s with ⟨-, h⟩ | ⟨w, rest, -, ⟨e, -, h⟩ | ⟨i, t, -, hE, h⟩ | ⟨i, v, -, -, h⟩⟩
  all_goals
    rw [h] at hstep
    cases hstep
  · exact hs
  · exact inv_record (inv_withEvents hs)
  · exact inv_of_effect hE (inv_withEvents hs)
  · exact inv_record (inv_withEvents hs)

/-- Settles O52. -/
theorem resetMeetsTheInvariant : Obligations.ResetMeetsTheInvariant :=
  ⟨fun _ => ⟨by decide, by decide, 0#32, by decide⟩, rfl⟩

/-- Settles O54: nothing is refused there, and every effect keeps both. -/
theorem everyEventCompletesAfterInit : Obligations.EveryEventCompletesAfterInit := by
  intro i s hs hinit
  have hE := effect_perform_of_inv i hs hinit
  exact ⟨_, exec_of_effect hE, initialised_of_effect hE, inv_of_effect hE hs⟩

/-- What holds of a state and is kept by every event of a list holds after the list. -/
theorem after_induction {P : State → Prop} {l : List Instr} (hs : P s)
    (hstep : ∀ i ∈ l, ∀ u, P u → P (perform i u)) : P (s.after l) := by
  induction l generalizing s with
  | nil => exact hs
  | cons i l ih =>
    obtain ⟨hi, hl⟩ := List.forall_mem_cons.1 hstep
    exact ih (hi s hs) hl

/-- What holds of a state and is kept by every event holds along an endless run. -/
theorem stateAt_induction {P : State → Prop} {e : Nat → Instr} (hs : P s) (hstep : ∀ i u, P u → P (perform i u))
    (n : Nat) : P (stateAt e s n) := by
  induction n with
  | zero => exact hs
  | succ n ih => exact hstep (e n) _ ih

/-- An effect writes neither the queue nor the record. -/
theorem events_refusals_of_effect (h : Effect i s t) : t.events = s.events ∧ t.refusals = s.refusals := by
  cases h with
  | svcOvf =>
    rw [State.addQuantum_events, State.addQuantum_refusals]
    exact ⟨rfl, rfl⟩
  | init | edge | wrap | tick | pwmclk | sample | svcDecrement | svcClose | svcIdle => simp

/-- An initialised state in the invariant whose record holds `vs` and no more. -/
def ReadyWith (vs : List Verdict) (s : State) : Prop := s.initialised = true ∧ Inv s ∧ s.refusals = vs

theorem readyWith_perform {vs : List Verdict} (i : Instr) (s : State) (h : ReadyWith vs s) :
    ReadyWith vs (perform i s) := by
  obtain ⟨hinit, hs, hvs⟩ := h
  have hE := effect_perform_of_inv i hs hinit
  exact ⟨initialised_of_effect hE, inv_of_effect hE hs, (events_refusals_of_effect hE).2.trans hvs⟩

/-- INIT makes any state ready: it is never refused and gives every element that the invariant speaks of. -/
theorem readyWith_perform_init (s : State) : ReadyWith s.refusals (perform .init s) := by
  rw [perform_of_effect .init]
  exact ⟨by simp, fun _ => ⟨by simp, by simp, 0#32, zeroCountGivesZeroDuty.1⟩, by simp⟩

/-- Settles O55: the queue spells INIT and some events; after INIT the state is ready and stays so. -/
theorem wellFormedTraceIsNeverRefused : Obligations.WellFormedTraceIsNeverRefused := by
  intro s ws hws
  obtain ⟨t, rfl⟩ := exists_assemble_init_of_traceWellFormed hws
  obtain ⟨hinit, hinv, hrefusals⟩ : ReadyWith s.refusals ((perform .init s).after t) :=
    after_induction (readyWith_perform_init s) fun i _ => readyWith_perform i
  have hrun := runOfAnAssembledTraceIsItsEventsInOrder s (.init :: t) []
  rw [List.append_nil] at hrun
  rw [assemble, List.length_map]
  exact ⟨(s.after (.init :: t)).withEvents [], hrun, hrefusals, rfl, hinit, inv_withEvents hinv⟩

end Sys2Proof.Machine
end

section
/-! What each event does, in the numbers of the spec (40_gate_timer.md to 45_service_and_init.md, section 1 of each). -/

namespace Sys2Proof.Machine

variable {s : State}

/-- Addition on words is the spec's addition on numbers, cut to the width. -/
theorem add_ofNat_eq_ofNat_mod {w : Nat} (x : BitVec w) (k : Nat) :
    x + BitVec.ofNat w k = BitVec.ofNat w ((x.toNat + k) % 2 ^ w) := by
  apply BitVec.eq_of_toNat_eq
  simp [BitVec.toNat_add]

theorem after_pair (s : State) (i j : Instr) : s.after [i, j] = perform j (perform i s) := rfl

/-! INIT -/

/-- Settles O12: the effect `init`, with the configuration's gate constant written out. -/
theorem initGivesTheResetValues : Obligations.InitGivesTheResetValues := by
  refine ⟨decode_encode .init, fun s => ?_⟩
  rw [exec_of_effect .init, State.initElements, gateWord_eq]
  rfl

/-- Settles O13: INIT's values are those of reset, and the premises give the four fields that INIT leaves. -/
theorem resetIsTheStateAfterInit : Obligations.ResetIsTheStateAfterInit := by
  intro s hpwmcnt hpwmOut hevents hrefusals
  rw [initGivesTheResetValues.2 s, hpwmcnt, hpwmOut, hevents, hrefusals]
  rfl

/-- Settles O14: power-on is before the first INIT, and INIT writes no draw but those it replaces. -/
theorem powerOnThenInit : Obligations.PowerOnThenInit :=
  fun ws => ⟨rfl, (initGivesTheResetValues.2 (State.powerOn ws)).trans rfl⟩

/-! PULSE and SVC.OVF -/

theorem raw_add_one_eq_zero_iff (r : CntWord) : (r.toNat + 1) % 2 ^ 16 = 0 ↔ r = 65535#16 := by
  bv_omega

/-- Settles O16: the effects `edge` and `wrap`, told apart by whether RAW is 65535. -/
theorem pulseCountsOneEdge : Obligations.PulseCountsOneEdge := by
  refine ⟨decode_encode .pulse, fun s hinit => ?_⟩
  rw [← add_ofNat_eq_ofNat_mod]
  by_cases hraw : s.raw = 65535#16
  · rw [if_pos ((raw_add_one_eq_zero_iff s.raw).2 hraw)]
    exact exec_of_effect (.wrap hinit hraw)
  · rw [if_neg (mt (raw_add_one_eq_zero_iff s.raw).1 hraw)]
    exact exec_of_effect (.edge hinit hraw)

/-- Settles O18: the effect `svcOvf`, with the quantum written out. -/
theorem overflowServiceAddsTheQuantum : Obligations.OverflowServiceAddsTheQuantum := by
  intro s hinit hovf
  rw [exec_of_effect (.svcOvf hinit hovf), State.addQuantum, quantumWord_eq, ← add_ofNat_eq_ofNat_mod]
  rfl

/-- A wrap while an overflow is pending changes only RAW (41_pulse_counter.md R122). -/
theorem incRaw_raiseOvf_of_pending (hovf : s.ovfPend = true) (hraw : s.raw = 65535#16) :
    s.incRaw.raiseOvf = { s with raw := 0#16 } := by
  rw [State.raiseOvf, State.incRaw, hraw, ← hovf]
  rfl

/-- Settles O17: the wrap leaves the bit as it was, so the one service that follows finds one request. -/
theorem secondWrapLosesOneQuantum : Obligations.SecondWrapLosesOneQuantum := by
  intro s hinit hovf hraw
  have hpulse : Effect .pulse s { s with raw := 0#16 } := by
    rw [← incRaw_raiseOvf_of_pending hovf hraw]
    exact .wrap hinit hraw
  have hsvc := effect_of_exec (overflowServiceAddsTheQuantum { s with raw := 0#16 } hinit hovf)
  refine ⟨exec_of_effect hpulse, ?_⟩
  rw [after_pair, perform_of_effect hpulse, perform_of_effect hsvc,
    ← add_ofNat_eq_ofNat_mod, ← BitVec.ofNat_add_ofNat, BitVec.ofNat_toNat, BitVec.setWidth_eq]

/-! TICK and SVC.TICK -/

/-- Settles O20. -/
theorem tickOnlyRequestsAService : Obligations.TickOnlyRequestsAService :=
  ⟨decode_encode .tick, fun _ hinit => exec_of_effect (.tick hinit)⟩

/-- Settles O21: the second TICK finds the bit set, so the service takes one tick. -/
theorem mergedTicksDecrementOnce : Obligations.MergedTicksDecrementOnce := by
  intro s hinit hovf h2 h200
  have hsvc := tickServiceWithoutClosure s.raiseTick.raiseTick hinit hovf rfl h2 h200
  rw [after_cons, after_pair, perform_of_effect (.tick hinit),
    perform_of_effect (.tick (s := s.raiseTick) hinit), perform_of_effect (effect_of_exec hsvc)]
  rfl

/-- Settles O24: the refusal `downcntOutOfRange`, and the event that records it. -/
theorem tickServiceOutOfRangeIsRefused : Obligations.TickServiceOutOfRangeIsRefused := by
  intro s hinit hovf htick hrange
  have hR : Refuses .svc s .downcntOutOfRange := .downcntOutOfRange hinit hovf htick (by omega)
  exact ⟨exec_of_refuses hR, perform_of_refuses hR⟩

/-- The state a gate closure leaves (40_gate_timer.md R104), every element that it writes in numbers. -/
theorem clearTick_gateClose_eq (s : State) :
    s.clearTick.gateClose Config.params =
      { s with tickPend := false, downcnt := 200#8, raw := 0#16, ovfacc := 0#32
               duty := BitVec.ofNat 8 (if 102000 ≤ s.effectiveCount.toNat then s.effectiveCount.toNat / 4000
                 else s.effectiveCount.toNat / 400)
               range := decide (102000 ≤ s.effectiveCount.toNat) } := by
  have hcount : s.clearTick.effectiveCount = s.effectiveCount := rfl
  rw [State.gateClose, State.publish, classify_fst, classify_snd, gateWord_eq, hcount]
  rfl

/-- Settles O23: the effect `svcClose`, and the latched count in numbers. -/
theorem gateClosureLatchesClassifiesAndReloads : Obligations.GateClosureLatchesClassifiesAndReloads := by
  intro s hinit hovf htick h1
  rw [exec_of_effect (.svcClose hinit hovf htick h1), clearTick_gateClose_eq, effectiveCount_toNat]

/-! The output generator -/

/-- Settles O38. -/
theorem sampleComparesCounterWithDuty : Obligations.SampleComparesCounterWithDuty :=
  ⟨decode_encode .sample, fun _ hinit => exec_of_effect (.sample hinit)⟩

/-- Settles O41: both states get the comparator's level, which PWMCNT and DUTY decide. -/
theorem sampleReadsOnlyDutyAndCounter : Obligations.SampleReadsOnlyDutyAndCounter := by
  intro s u hs hu hduty hcnt
  refine ⟨s.pwmCmp, exec_of_effect (.sample hs), ?_⟩
  rw [← pwmCmp_congr hcnt hduty]
  exact exec_of_effect (.sample hu)

/-! SVC -/

/-- Settles O43. -/
theorem serviceWithNothingPendingChangesNothing : Obligations.ServiceWithNothingPendingChangesNothing :=
  ⟨decode_encode .svc, fun _ hinit hovf htick => exec_of_effect (.svcIdle hinit hovf htick)⟩

end Sys2Proof.Machine
end

section
/-! The effective count and the classifier (41_pulse_counter.md section 3, 42_classifier.md). -/

namespace Sys2Proof.Machine

variable {s : State}

/-- With no low half set, the sum that does not wrap is the concatenation (10_state.md section 4). -/
theorem effectiveCount_eq_append (h : s.ovfacc.toNat % 65536 = 0) (hfit : s.ovfacc.toNat + s.raw.toNat < 2 ^ 32) :
    s.effectiveCount = s.ovfacc.extractLsb' 16 16 ++ s.raw := by
  apply BitVec.eq_of_toNat_eq
  rw [effectiveCount_toNat, Nat.mod_eq_of_lt hfit, BitVec.toNat_append, BitVec.extractLsb'_toNat,
    ← Nat.shiftLeft_add_eq_or_of_lt s.raw.isLt, Nat.shiftLeft_eq, Nat.shiftRight_eq_div_pow]
  omega

/-- Settles O19: a closure classifies the count as it stands before it; the concatenation is
`effectiveCount_eq_append`. -/
theorem effectiveCountIsTheWideSum : Obligations.EffectiveCountIsTheWideSum := by
  refine ⟨effectiveCount_toNat, fun s hinit hovf htick h1 => ?_, fun s h hfit => ?_⟩
  · exact ⟨_, exec_of_effect (.svcClose hinit hovf htick h1), rfl⟩
  · exact ⟨effectiveCount_eq_append h hfit, by rw [effectiveCount_toNat, Nat.mod_eq_of_lt hfit]⟩

/-- Settles O30: the comparator, and the closure that publishes its output. -/
theorem highRangeIsTheInclusiveThreshold : Obligations.HighRangeIsTheInclusiveThreshold := by
  refine ⟨fun count => ?_, fun s hinit hovf htick h1 => ?_⟩
  · rw [classify_snd, decide_eq_true_iff]
  · exact ⟨_, gateClosureLatchesClassifiesAndReloads s hinit hovf htick h1, decide_eq_true_iff⟩

/-- The duty is the low 8 bits of the floor quotient, whatever the parameters (42_classifier.md R145). -/
theorem classify_fst_toNat (p : Params) (count : AccWord) :
    (classify p count).1.toNat = count.toNat / divisorFor p (isHighRange p count) % 256 :=
  BitVec.toNat_ofNat _ _

/-- Settles O31: the two constants, and the comparator's output that selects between them. -/
theorem rangeSelectsTheDivisor : Obligations.RangeSelectsTheDivisor := by
  refine ⟨divHigh_eq, divLow_eq, by rw [divHigh_eq, divLow_eq], fun count => ?_⟩
  rw [classify_fst_toNat, divisorFor, divHigh_eq, divLow_eq]
  rfl

theorem duty_of_low {count : AccWord} (h : count.toNat < 102000) :
    (classify Config.params count).1.toNat = count.toNat / 400 := by
  rw [classify_fst, if_neg (Nat.not_le_of_lt h), BitVec.toNat_ofNat]
  omega

theorem duty_of_high {count : AccWord} (h : 102000 ≤ count.toNat) :
    (classify Config.params count).1.toNat = count.toNat / 4000 % 256 := by
  rw [classify_fst, if_pos h, BitVec.toNat_ofNat]

/-- Settles O33: a quotient by 400 below the threshold is at most 254. -/
theorem lowRangeNeverWraps : Obligations.LowRangeNeverWraps := by
  intro count h
  rw [duty_of_low h]
  omega

/-- Settles O35: below 1024000 the quotient is below 256, and above it is cut. -/
theorem highRangeIsExactThenWraps : Obligations.HighRangeIsExactThenWraps := by
  refine ⟨fun count h hfit => ?_, fun count h => ?_⟩
  · rw [duty_of_high h]
    omega
  · have hhigh : 102000 ≤ count.toNat := by omega
    apply Prod.ext
    · apply BitVec.eq_of_toNat_eq
      rw [duty_of_high hhigh, BitVec.toNat_ofNat, Nat.mod_mod]
    · rw [classify_snd, decide_eq_true hhigh]

/-- Settles O36: the jump is evaluated; within one range below the wrap the duty is the quotient by one divisor. -/
theorem dutyIsMonotonicWithinARange : Obligations.DutyIsMonotonicWithinARange := by
  refine ⟨by decide, by decide, fun c c' hle hfit hrange => ?_⟩
  rw [classify_snd, classify_snd, decide_eq_decide] at hrange
  by_cases hhigh : 102000 ≤ c.toNat
  · rw [duty_of_high hhigh, duty_of_high (hrange.1 hhigh)]
    omega
  · have hlow' : ¬ 102000 ≤ c'.toNat := mt hrange.2 hhigh
    rw [duty_of_low (Nat.lt_of_not_le hhigh), duty_of_low (Nat.lt_of_not_le hlow')]
    exact Nat.div_le_div_right hle

theorem duty_of_below_threshold {p : Params} {count : AccWord} (h : count.toNat < p.threshold) :
    (classify p count).1.toNat = count.toNat / p.divLow % 256 := by
  have hlow : isHighRange p count = false := decide_eq_false (Nat.not_le_of_lt h)
  rw [classify_fst_toNat, hlow]
  rfl

/-- Settles O34: the count 256 × DIV_LOW is the first whose quotient does not fit, and it is below a greater
threshold. -/
theorem lowRangeFitsExactlyUpTo256Divisors : Obligations.LowRangeFitsExactlyUpTo256Divisors := by
  intro p hdiv hthreshold
  constructor
  · intro hexact
    by_contra! hgreater
    have hcount : (BitVec.ofNat 32 (256 * p.divLow)).toNat = 256 * p.divLow := by
      rw [BitVec.toNat_ofNat, Nat.mod_eq_of_lt (hgreater.trans_le hthreshold)]
    have hlt : (BitVec.ofNat 32 (256 * p.divLow)).toNat < p.threshold := by rwa [hcount]
    have hquotient := hexact _ hlt
    rw [duty_of_below_threshold hlt, hcount, Nat.mul_div_cancel _ hdiv] at hquotient
    exact absurd hquotient (by decide)
  · intro hfits count hcount
    rw [duty_of_below_threshold hcount, Nat.mod_eq_of_lt]
    exact Nat.div_lt_of_lt_mul (by omega)

end Sys2Proof.Machine
end

section
/-! The configuration (00_scope.md section 2). -/

namespace Sys2Proof

/-- The check on two constants at the default widths: the width constraints of R5 hold, and the threshold fits. -/
theorem ofConstants_accepted_iff (g f : Nat) :
    (Params.ofConstants g f).accepted = true ↔ 0 < g * f ∧ g * f % 10 = 0 ∧ g < 256 := by
  have hthreshold : 255 * (g * f / 10) ≤ 256 * (g * f / 10) := Nat.mul_le_mul_right _ (by decide)
  simp only [Params.accepted, Params.ofConstants, Params.divHigh, Params.divLow, decide_eq_true_eq, true_and]
  omega

/-- Settles O56. -/
theorem configurationFollowsFromTwoConstants : Obligations.ConfigurationFollowsFromTwoConstants := by
  intro g f
  refine ⟨ofConstants_accepted_iff g f, fun h => ⟨?_, rfl⟩⟩
  obtain ⟨-, hmod, -⟩ := (ofConstants_accepted_iff g f).1 h
  exact (Nat.mul_div_cancel' (Nat.dvd_of_mod_eq_zero hmod)).symm

end Sys2Proof
end

section
/-! Which events write which elements (10_state.md section 3, 60_exceptions.md section 2). -/

namespace Sys2Proof.Machine

variable {s t : State} {i : Instr}

theorem servesTick_of_decrement (hinit : s.initialised = true) (hovf : s.ovfPend = false) (htick : s.tickPend = true)
    (h2 : 2 ≤ s.downcnt.toNat) (h200 : s.downcnt.toNat ≤ 200) : servesTick .svc s = true :=
  servesTick_iff.2 ⟨rfl, hinit, hovf, htick, Nat.le_of_lt h2, h200⟩

theorem closesGate_of_close (hinit : s.initialised = true) (hovf : s.ovfPend = false) (htick : s.tickPend = true)
    (h1 : s.downcnt = 1) : closesGate .svc s = true :=
  closesGate_iff.2 ⟨rfl, hinit, hovf, htick, h1⟩

theorem servesTick_of_closesGate (h : closesGate i s = true) : servesTick i s = true :=
  (Bool.and_eq_true_iff.1 h).1

theorem raw_add_one_of_max {r : CntWord} (h : r = 0xFFFF#16) : r + 1 = 0#16 := by
  rw [h]; decide

/-- What SVC.OVF leaves: every element but OVF_PEND and OVFACC (41_pulse_counter.md R124), whatever the quantum. -/
theorem overflowService_frame (p : Params) (s : State) :
    (s.clearOvf.addQuantum p).ovfPend = false ∧ (s.clearOvf.addQuantum p).tickPend = s.tickPend ∧
    (s.clearOvf.addQuantum p).initialised = s.initialised ∧ (s.clearOvf.addQuantum p).downcnt = s.downcnt ∧
    (s.clearOvf.addQuantum p).raw = s.raw ∧ (s.clearOvf.addQuantum p).duty = s.duty ∧
    (s.clearOvf.addQuantum p).range = s.range ∧ (s.clearOvf.addQuantum p).pwmcnt = s.pwmcnt ∧
    (s.clearOvf.addQuantum p).pwmOut = s.pwmOut ∧ (s.clearOvf.addQuantum p).events = s.events ∧
    (s.clearOvf.addQuantum p).refusals = s.refusals := by
  simp

/-- Settles O51: each effect is one writer's, and its updates are the elements of its row in the table. -/
theorem everyElementHasOnlyItsWriters : Obligations.EveryElementHasOnlyItsWriters := by
  intro i s t h
  cases effect_of_exec h with
  | svcOvf _ hovf =>
    have hframe := overflowService_frame Config.params s
    generalize s.clearOvf.addQuantum Config.params = t at hframe ⊢
    simp [hframe, hovf]
  | svcDecrement hinit hovf htick h2 h200 => simp [servesTick_of_decrement hinit hovf htick h2 h200]
  | svcClose hinit hovf htick h1 =>
    have hcloses := closesGate_of_close hinit hovf htick h1
    simp [hcloses, servesTick_of_closesGate hcloses]
  | init | edge | wrap | tick | pwmclk | sample | svcIdle => simp

/-- Settles O45: TICK and a wrap raise the bits, INIT clears both, and each sub-handler its own. -/
theorem pendingBitsHaveTheirOwnSettersAndClearers : Obligations.PendingBitsHaveTheirOwnSettersAndClearers := by
  intro i s t h
  cases effect_of_exec h with
  | wrap _ hraw => simp [hraw]
  | svcOvf _ hovf =>
    have hframe := overflowService_frame Config.params s
    generalize s.clearOvf.addQuantum Config.params = t at hframe ⊢
    simp [hframe, hovf]
  | svcDecrement _ hovf | svcClose _ hovf => simp [hovf]
  | init | edge | tick | pwmclk | sample | svcIdle => simp +contextual

end Sys2Proof.Machine
end

section
/-! Interrupt service (45_service_and_init.md section 1) and the order of events (60_exceptions.md section 3). -/

namespace Sys2Proof.Machine

variable {s t : State} {i : Instr}

theorem irq_eq_true_iff (s : State) : s.irq = true ↔ s.ovfPend = true ∨ s.tickPend = true := Bool.or_eq_true_iff

theorem irq_eq_false_iff (s : State) : s.irq = false ↔ s.ovfPend = false ∧ s.tickPend = false := Bool.or_eq_false_iff

/-- The interrupt line is 1 when a source requests (60_exceptions.md R202). -/
theorem irq_eq_true_iff_requests (s : State) : s.irq = true ↔ ∃ src : Source, s.requests src = true := by
  rw [irq_eq_true_iff]
  constructor
  · rintro (hovf | htick)
    · exact ⟨.overflow, hovf⟩
    · exact ⟨.tick, htick⟩
  · rintro ⟨src, h⟩
    cases src with
    | overflow => exact .inl h
    | tick => exact .inr h

/-- A service that completes with a request pending is the service of some source. -/
theorem exists_serves_of_effect_svc (h : Effect .svc s t) (hirq : s.irq = true) :
    ∃ src : Source, s.requests src = true ∧ serves src .svc s = true := by
  cases h with
  | svcOvf hinit hovf => exact ⟨.overflow, hovf, servesOverflow_iff.2 ⟨rfl, hinit, hovf⟩⟩
  | svcDecrement hinit hovf htick h2 h200 => exact ⟨.tick, htick, servesTick_of_decrement hinit hovf htick h2 h200⟩
  | svcClose hinit hovf htick h1 =>
    exact ⟨.tick, htick, servesTick_of_closesGate (closesGate_of_close hinit hovf htick h1)⟩
  | svcIdle _ hovf htick => simp [State.irq, hovf, htick] at hirq

/-- Settles O46: with a request pending a completing service clears a bit that is 1, so the state is another. -/
theorem irqIsOneExactlyWhenServiceHasWork : Obligations.IrqIsOneExactlyWhenServiceHasWork := by
  refine ⟨irq_eq_true_iff, fun s hinit => ⟨fun hirq => ?_, fun hsame => ?_⟩⟩
  · obtain ⟨hovf, htick⟩ := (irq_eq_false_iff s).1 hirq
    exact exec_of_effect (.svcIdle hinit hovf htick)
  · by_contra hirq
    have hE := effect_of_exec hsame
    obtain ⟨src, hreq, hserves⟩ := exists_serves_of_effect_svc hE (by simpa using hirq)
    have hclear := request_clear_of_serves hserves
    rw [perform_of_effect hE, hreq] at hclear
    exact absurd hclear (by decide)

/-- An overflow pending: the service is SVC.OVF, and the tick and its elements wait. -/
theorem effect_svc_frame_of_overflow (h : Effect .svc s t) (hovf : s.ovfPend = true) :
    t.ovfPend = false ∧ t.tickPend = s.tickPend ∧ t.initialised = true ∧
      t.downcnt = s.downcnt ∧ t.raw = s.raw ∧ t.duty = s.duty ∧ t.range = s.range := by
  cases h with
  | svcOvf hinit =>
    obtain ⟨hovf', htick', hinit', hdowncnt, hraw, hduty, hrange, -⟩ := overflowService_frame Config.params s
    exact ⟨hovf', htick', hinit'.trans hinit, hdowncnt, hraw, hduty, hrange⟩
  | svcDecrement _ hno | svcClose _ hno | svcIdle _ hno => simp [hovf] at hno

/-- No overflow pending: the service leaves neither bit 1. -/
theorem effect_svc_clears_of_no_overflow (h : Effect .svc s t) (hovf : s.ovfPend = false) :
    t.ovfPend = false ∧ t.tickPend = false := by
  cases h with
  | svcOvf _ hyes => simp [hovf] at hyes
  | svcDecrement | svcClose => simp [hovf]
  | svcIdle _ _ htick => exact ⟨hovf, htick⟩

/-- In range, a service is never refused. -/
theorem effect_svc_of_inRange (hinit : s.initialised = true) (h1 : 1 ≤ s.downcnt.toNat)
    (h200 : s.downcnt.toNat ≤ 200) : Effect .svc s (perform .svc s) := by
  rcases perform_cases .svc s with hE | ⟨v, hR, -⟩
  · exact hE
  · cases hR with
    | notInitialised hnot => simp [hinit] at hnot
    | downcntOutOfRange _ _ _ hrange => exact absurd ⟨h1, h200⟩ hrange

/-- Settles O42: the first service takes the overflow when one is pending, and the second then finds the tick. -/
theorem serviceServesOneSourceOverflowFirst : Obligations.ServiceServesOneSourceOverflowFirst := by
  intro s hinit h1 h200
  have hE := effect_svc_of_inRange hinit h1 h200
  refine ⟨perform .svc s, exec_of_effect hE, ?_⟩
  cases hovf : s.ovfPend with
  | false =>
    obtain ⟨hovf', htick'⟩ := effect_svc_clears_of_no_overflow hE hovf
    simp [hovf', htick']
  | true =>
    obtain ⟨hovf', htick', hinit', hdowncnt, hcount⟩ := effect_svc_frame_of_overflow hE hovf
    refine ⟨hovf', by simp [htick'], fun _ => ⟨hdowncnt, hcount⟩, fun _ htick => ?_⟩
    have h1' : 1 ≤ (perform .svc s).downcnt.toNat := by rwa [hdowncnt]
    have h200' : (perform .svc s).downcnt.toNat ≤ 200 := by rwa [hdowncnt]
    have hE' := effect_svc_of_inRange hinit' h1' h200'
    exact ⟨_, exec_of_effect hE', servesTick_iff.2 ⟨rfl, hinit', hovf', htick'.trans htick, h1', h200'⟩,
      (effect_svc_clears_of_no_overflow hE' hovf').2⟩

theorem perform_of_not_initialised (hinit : s.initialised = false) (hne : i ≠ .init) :
    perform i s = s.record .notInitialised :=
  perform_of_refuses (.notInitialised hinit hne)

/-- Before the first INIT two events other than INIT leave the same record in either order. -/
theorem after_comm_of_not_initialised {j : Instr} (hinit : s.initialised = false) (hi : i ≠ .init)
    (hj : j ≠ .init) : s.after [i, j] = s.after [j, i] := by
  have hrecord : (s.record .notInitialised).initialised = false := hinit
  rw [after_pair, after_pair, perform_of_not_initialised hinit hi, perform_of_not_initialised hinit hj,
    perform_of_not_initialised hrecord hi, perform_of_not_initialised hrecord hj]

theorem after_tick_pulse_of_wrap (hinit : s.initialised = true) (hraw : s.raw = 0xFFFF#16) :
    s.after [.tick, .pulse] = s.raiseTick.incRaw.raiseOvf := by
  rw [after_pair, perform_of_effect (.tick hinit), perform_of_effect (.wrap (s := s.raiseTick) hinit hraw)]

theorem after_tick_pulse_of_edge (hinit : s.initialised = true) (hraw : s.raw ≠ 0xFFFF#16) :
    s.after [.tick, .pulse] = s.raiseTick.incRaw := by
  rw [after_pair, perform_of_effect (.tick hinit), perform_of_effect (.edge (s := s.raiseTick) hinit hraw)]

/-- Settles O48: TICK writes one request bit, and PULSE, which does not read it, RAW and the other. -/
theorem tickAndPulseCommute : Obligations.TickAndPulseCommute := by
  refine ⟨fun s => ?_, fun s hinit hraw => ?_⟩
  · cases hinit : s.initialised with
    | false => exact after_comm_of_not_initialised hinit (by decide) (by decide)
    | true =>
      by_cases hraw : s.raw = 0xFFFF#16
      · rw [after_tick_pulse_of_wrap hinit hraw, after_pair, perform_of_effect (.wrap hinit hraw),
          perform_of_effect (.tick (s := s.incRaw.raiseOvf) (by simpa using hinit))]
        rfl
      · rw [after_tick_pulse_of_edge hinit hraw, after_pair, perform_of_effect (.edge hinit hraw),
          perform_of_effect (.tick (s := s.incRaw) (by simpa using hinit))]
        rfl
  · rw [after_tick_pulse_of_wrap hinit hraw, State.raiseOvf, State.incRaw, State.raiseTick_raw, raw_add_one_of_max hraw]
    rfl

/-- SVC.OVF writes neither PWMCNT nor DUTY, so the comparator's level is the same after it. -/
theorem pwmCmp_overflowService (p : Params) (s : State) : (s.clearOvf.addQuantum p).pwmCmp = s.pwmCmp :=
  pwmCmp_congr (by simp) (by simp)

/-- Settles O50: both orders write the pin with one level, and the two elements of SVC.OVF. -/
theorem sampleAndOverflowServiceCommute : Obligations.SampleAndOverflowServiceCommute := by
  intro s hovf
  cases hinit : s.initialised with
  | false => exact after_comm_of_not_initialised hinit (by decide) (by decide)
  | true =>
    rw [after_pair, after_pair, perform_of_effect (.sample hinit),
      perform_of_effect (.svcOvf (s := s.setPin s.pwmCmp) hinit hovf), perform_of_effect (.svcOvf hinit hovf),
      perform_of_effect (.sample (by rwa [State.addQuantum_initialised])), pwmCmp_overflowService]
    rfl

end Sys2Proof.Machine
end

section
/-! The true count (10_state.md R37): what one event does to it, and its conservation over runs. -/

namespace Sys2Proof.Machine

variable {s t : State} {i : Instr} {v : Verdict}

theorem trueCount_eq (s : State) : s.trueCount = s.ovfacc.toNat + 65536 * s.ovfPend.toNat + s.raw.toNat := by
  rw [State.trueCount, quantum_eq]

theorem trueCount_incRaw (hraw : s.raw ≠ 0xFFFF#16) : s.incRaw.trueCount = s.trueCount + 1 := by
  have hnext : (s.raw + 1).toNat = s.raw.toNat + 1 := by bv_omega
  rw [trueCount_eq, trueCount_eq, State.incRaw_raw, hnext]
  rfl

/-- A wrap moves 65535 and the edge from RAW to the request bit. -/
theorem trueCount_wrap (hraw : s.raw = 0xFFFF#16) (hovf : s.ovfPend = false) :
    s.incRaw.raiseOvf.trueCount = s.trueCount + 1 := by
  rw [trueCount_eq, trueCount_eq, State.raiseOvf_ovfacc, State.raiseOvf_ovfPend, State.raiseOvf_raw,
    State.incRaw_ovfacc, State.incRaw_raw, raw_add_one_of_max hraw, hraw, hovf]
  simp

/-- SVC.OVF moves the quantum from the request bit to OVFACC, which has room for it. -/
theorem trueCount_overflowService (hovf : s.ovfPend = true) (hfit : s.trueCount < 2 ^ 32) :
    (s.clearOvf.addQuantum Config.params).trueCount = s.trueCount := by
  have hcount : s.trueCount = s.ovfacc.toNat + 65536 + s.raw.toNat := by rw [trueCount_eq, hovf]; rfl
  have hadd : (s.ovfacc + 65536#32).toNat = s.ovfacc.toNat + 65536 := by
    rw [BitVec.toNat_add, BitVec.toNat_ofNat, Nat.mod_eq_of_lt (by omega)]
  rw [hcount, trueCount_eq, State.addQuantum_ovfacc, State.addQuantum_ovfPend, State.addQuantum_raw, quantumWord_eq,
    State.clearOvf_ovfacc, hadd]
  rfl

theorem trueCount_of_empty (hraw : s.raw = 0#16) (hovfacc : s.ovfacc = 0#32) (hovf : s.ovfPend = false) :
    s.trueCount = 0 := by
  rw [trueCount_eq, hraw, hovfacc, hovf]
  rfl

/-- With no overflow pending the true count is the effective count, as long as the sum fits. -/
theorem effectiveCount_eq_trueCount (hovf : s.ovfPend = false) (hfit : s.trueCount < 2 ^ 32) :
    s.effectiveCount.toNat = s.trueCount := by
  have hcount : s.trueCount = s.ovfacc.toNat + s.raw.toNat := by rw [trueCount_eq, hovf]; rfl
  rw [effectiveCount_toNat, hcount, Nat.mod_eq_of_lt (hcount ▸ hfit)]

/-- What an event adds to the pulses counted. -/
def edgesOf (i : Instr) : Nat := if i = .pulse then 1 else 0

theorem count_pulse_cons (i : Instr) (l : List Instr) :
    (i :: l).count .pulse = edgesOf i + l.count .pulse := by
  rw [List.count_cons, Nat.add_comm, edgesOf]
  simp only [beq_iff_eq]

/-- What a completing event that loses no quantum does to the true count: INIT and a closure set it to 0, every other
event adds its edges. -/
theorem trueCount_of_effect (h : Effect i s t) (hfit : s.trueCount < 2 ^ 32)
    (hserved : wrapsRaw i s = true → s.ovfPend = false) :
    (i = .init ∨ closesGate i s = true) ∧ t.trueCount = 0 ∨
      i ≠ .init ∧ closesGate i s = false ∧ t.trueCount = s.trueCount + edgesOf i := by
  cases h with
  | init => exact .inl ⟨.inl rfl, trueCount_of_empty (by simp) (by simp) (by simp)⟩
  | svcClose hinit hovf htick h1 =>
    exact .inl ⟨.inr (closesGate_of_close hinit hovf htick h1), trueCount_of_empty (by simp) (by simp) (by simpa)⟩
  | edge _ hraw => exact .inr ⟨by decide, rfl, trueCount_incRaw hraw⟩
  | wrap hinit hraw => exact .inr ⟨by decide, rfl, trueCount_wrap hraw (hserved (wrapsRaw_iff.2 ⟨rfl, hinit, hraw⟩))⟩
  | svcOvf hinit hovf =>
    exact .inr ⟨by decide, by simp [closesGate, servesTick, hovf], trueCount_overflowService hovf hfit⟩
  | svcDecrement hinit hovf htick h2 h200 =>
    have hne : s.downcnt ≠ 1#8 := by bv_omega
    exact .inr ⟨by decide, by simp [closesGate, hne], rfl⟩
  | svcIdle _ _ htick => exact .inr ⟨by decide, by simp [closesGate, servesTick, htick], rfl⟩
  | tick | pwmclk | sample => exact .inr ⟨by decide, rfl, rfl⟩

/-- Settles O27: the clauses are the cases of `trueCount_of_effect`. -/
theorem trueCountMovesOnlyByPulses : Obligations.TrueCountMovesOnlyByPulses := by
  intro i s t h hfit
  have hE := effect_of_exec h
  by_cases hpulse : i = .pulse
  · subst hpulse
    refine ⟨fun _ hlost => ?_, nofun, nofun, fun hne => absurd rfl hne⟩
    have hserved : wrapsRaw .pulse s = true → s.ovfPend = false := fun hwrap =>
      Bool.eq_false_iff.2 fun hovf => hlost hovf (wrapsRaw_iff.1 hwrap).2.2
    rcases trueCount_of_effect hE hfit hserved with ⟨hzero | hzero, -⟩ | ⟨-, -, hadd⟩
    · cases hzero
    · cases hzero
    · exact hadd
  · have hserved : wrapsRaw i s = true → s.ovfPend = false := fun hwrap => absurd (wrapsRaw_iff.1 hwrap).1 hpulse
    have hedges : edgesOf i = 0 := if_neg hpulse
    rcases trueCount_of_effect hE hfit hserved with ⟨hzero, ht⟩ | ⟨hinit, hcloses, hadd⟩
    · refine ⟨fun h => absurd h hpulse, fun _ => ht, fun _ => ht, fun _ hne hopen => ?_⟩
      rcases hzero with hinit | hcloses
      · exact absurd hinit hne
      · simp [hcloses] at hopen
    · refine ⟨fun h => absurd h hpulse, fun h => absurd h hinit, fun h => by simp [hcloses] at h, fun _ _ _ => ?_⟩
      rw [hadd, hedges, Nat.add_zero]

theorem trueCount_record : (s.record v).trueCount = s.trueCount := rfl

theorem closesGate_eq_false_of_refuses (h : Refuses i s v) : closesGate i s = false := by
  rw [Bool.eq_false_iff]
  intro hcloses
  obtain ⟨rfl, hinit, hovf, htick, h1⟩ := closesGate_iff.1 hcloses
  exact not_effect_of_refuses h (.svcClose hinit hovf htick h1)

theorem initialised_perform (i : Instr) (s : State) (hinit : s.initialised = true) :
    (perform i s).initialised = true := by
  rcases perform_cases i s with hE | ⟨v, -, hr⟩
  · exact initialised_of_effect hE
  · rw [hr]
    exact hinit

/-- The count that an event latches: the effective count at a closure. -/
def latched (i : Instr) (s : State) : Nat := if closesGate i s then s.effectiveCount.toNat else 0

theorem latched_pulse (s : State) : latched .pulse s = 0 := rfl

theorem latchedTotal_cons (s : State) (i : Instr) (l : List Instr) :
    latchedTotal s (i :: l) = latched i s + latchedTotal (perform i s) l := rfl

/-- One event conserves the pulses: what it latches and what stays counted are what was counted and its edges. -/
theorem latched_add_trueCount_perform (hinit : s.initialised = true) (hne : i ≠ .init) (hfit : s.trueCount < 2 ^ 32)
    (hserved : wrapsRaw i s = true → s.ovfPend = false) :
    latched i s + (perform i s).trueCount = s.trueCount + edgesOf i := by
  rcases perform_cases i s with hE | ⟨v, hR, hr⟩
  · rcases trueCount_of_effect hE hfit hserved with ⟨hinit' | hcloses, hzero⟩ | ⟨-, hopen, hadd⟩
    · exact absurd hinit' hne
    · obtain ⟨rfl, -, hovf, -⟩ := closesGate_iff.1 hcloses
      rw [latched, if_pos hcloses, hzero, effectiveCount_eq_trueCount hovf hfit]
      rfl
    · rw [latched, hopen, hadd]
      exact Nat.zero_add _
  · rw [latched, closesGate_eq_false_of_refuses hR, hr, trueCount_record]
    cases hR with
    | notInitialised hnot => simp [hinit] at hnot
    | downcntOutOfRange => exact Nat.zero_add _

theorem wrapsServedInTime_cons (s : State) (i : Instr) (l : List Instr) :
    wrapsServedInTime s (i :: l) = (!(wrapsRaw i s && s.ovfPend) && wrapsServedInTime (perform i s) l) := rfl

theorem noWrapLost_of_wrapsServedInTime {l : List Instr} (h : wrapsServedInTime s (i :: l) = true) :
    (wrapsRaw i s = true → s.ovfPend = false) ∧ wrapsServedInTime (perform i s) l = true := by
  simpa [wrapsServedInTime_cons, ← Bool.not_eq_true, imp_iff_not_or] using h

/-- Settles O29, by induction on the run from `latched_add_trueCount_perform`. -/
theorem noPulseIsLostAcrossClosures : Obligations.NoPulseIsLostAcrossClosures := by
  intro s l hinit hl hserved hfit
  induction l generalizing s with
  | nil => exact Nat.zero_add _
  | cons i l ih =>
    rw [count_pulse_cons] at hfit ⊢
    obtain ⟨hne, hl⟩ := not_or.1 (List.mem_cons.not.1 hl)
    obtain ⟨hwrap, hserved⟩ := noWrapLost_of_wrapsServedInTime hserved
    have hstep := latched_add_trueCount_perform hinit (Ne.symm hne) (by omega) hwrap
    have hrest := ih (perform i s) (initialised_perform i s hinit) hl hserved (by omega)
    rw [latchedTotal_cons, after_cons]
    omega

/-- Without a closure nothing is latched. -/
theorem latchedTotal_eq_zero_of_no_closures {l : List Instr} (h : gateClosures s l = 0) : latchedTotal s l = 0 := by
  induction l generalizing s with
  | nil => rfl
  | cons i l ih =>
    obtain ⟨hopen, hrest⟩ : closesGate i s = false ∧ gateClosures (perform i s) l = 0 := by
      simpa [gateClosures, Bool.toNat_eq_zero] using h
    rw [latchedTotal_cons, latched, hopen, ih hrest]
    rfl

theorem ovfacc_multiple_perform (i : Instr) (s : State) (hs : s.ovfacc.toNat % 65536 = 0) :
    (perform i s).ovfacc.toNat % 65536 = 0 := by
  rcases perform_cases i s with hE | ⟨v, -, hr⟩
  · exact ovfacc_multiple_of_effect hE fun _ => hs
  · rw [hr]
    exact hs

/-- Settles O28: nothing is latched, so by O29 the true count is the pulses; with no overflow pending it is OVFACC, a
multiple of the quantum, plus RAW, which is below it. -/
theorem effectiveCountIsTheNumberOfPulses : Obligations.EffectiveCountIsTheNumberOfPulses := by
  intro s l hinit hraw hovfacc hovf hl hclosures hserved hend hfit
  have hempty : s.trueCount = 0 := trueCount_of_empty hraw hovfacc hovf
  have hpulses := noPulseIsLostAcrossClosures s l hinit hl hserved (by rwa [hempty, Nat.zero_add])
  rw [latchedTotal_eq_zero_of_no_closures hclosures, hempty, Nat.zero_add, Nat.zero_add] at hpulses
  have heff : (s.after l).effectiveCount.toNat = l.count .pulse := by
    rw [effectiveCount_eq_trueCount hend (by rwa [hpulses]), hpulses]
  have hmultiple : (s.after l).ovfacc.toNat % 65536 = 0 :=
    after_induction (P := fun u => u.ovfacc.toNat % 65536 = 0) (by rw [hovfacc]; rfl)
      fun i _ => ovfacc_multiple_perform i
  have hlt : (s.after l).raw.toNat < 65536 := (s.after l).raw.isLt
  rw [trueCount_eq, hend, Bool.toNat_false] at hpulses
  exact ⟨by omega, by omega, heff⟩

/-- Settles O49: the pulse before the closing service is in the count latched; the pulse after it finds RAW 0. -/
theorem pulseAtTheBoundaryFallsInOneWindow : Obligations.PulseAtTheBoundaryFallsInOneWindow := by
  intro s hcloses hraw hfit
  obtain ⟨-, hinit, hovf, htick, h1⟩ := closesGate_iff.1 hcloses
  have hpulse : perform .pulse s = s.incRaw := perform_of_effect (.edge hinit hraw)
  have hsvc : perform .svc s = s.clearTick.gateClose Config.params :=
    perform_of_effect (.svcClose hinit hovf htick h1)
  have hcloses' : closesGate .svc s.incRaw = true := closesGate_iff.2 ⟨rfl, hinit, hovf, htick, h1⟩
  have hcount : s.effectiveCount.toNat = s.ovfacc.toNat + s.raw.toNat := by
    rw [effectiveCount_toNat, Nat.mod_eq_of_lt (by omega)]
  have hcount' : s.incRaw.effectiveCount.toNat = s.ovfacc.toNat + s.raw.toNat + 1 := by
    have hnext : (s.raw + 1).toNat = s.raw.toNat + 1 := by bv_omega
    rw [effectiveCount_toNat, State.incRaw_raw, State.incRaw_ovfacc, hnext, Nat.mod_eq_of_lt (by omega)]
    omega
  refine ⟨?_, ?_, ?_, ?_⟩
  · rw [latchedTotal_cons, latchedTotal_cons, latched_pulse, hpulse, latched, if_pos hcloses', hcount']
    exact Nat.zero_add _
  · rw [after_pair, hpulse,
      perform_of_effect (.svcClose (s := s.incRaw) hinit hovf htick h1), State.gateClose_raw]
  · rw [latchedTotal_cons, latchedTotal_cons, latched_pulse, latched, if_pos hcloses, hcount]
    rfl
  · have hraw' : (perform .svc s).raw ≠ 0xFFFF#16 := by rw [hsvc, State.gateClose_raw]; decide
    rw [after_pair, perform_of_effect (.edge (initialised_perform .svc s hinit) hraw'),
      State.incRaw_raw, hsvc, State.gateClose_raw]
    rfl

end Sys2Proof.Machine
end

section
/-! The gate window and the ticks over runs (40_gate_timer.md section 3, 70_reset_and_hazards.md sections 2 and 3). -/

namespace Sys2Proof.Machine

variable {s t : State} {i : Instr}

theorem closesGate_eq_false_of_servesTick (h : servesTick i s = false) : closesGate i s = false := by
  rw [closesGate, h, Bool.false_and]

/-- What an event other than INIT does to the gate timer and its outputs, DOWNCNT in range: nothing unless it serves a
tick; a served tick counts down, or at 1 closes the gate and reloads. -/
theorem gate_perform (hinit : s.initialised = true) (hne : i ≠ .init) (h1 : 1 ≤ s.downcnt.toNat)
    (h200 : s.downcnt.toNat ≤ 200) :
    (servesTick i s = false ∧ closesGate i s = false ∧ (perform i s).downcnt = s.downcnt ∧
      (perform i s).duty = s.duty ∧ (perform i s).range = s.range) ∨
    (servesTick i s = true ∧ closesGate i s = false ∧ (perform i s).downcnt.toNat + 1 = s.downcnt.toNat ∧
      1 ≤ (perform i s).downcnt.toNat ∧ (perform i s).duty = s.duty ∧ (perform i s).range = s.range) ∨
    (servesTick i s = true ∧ closesGate i s = true ∧ s.downcnt.toNat = 1 ∧
      (perform i s).downcnt.toNat = 200) := by
  by_cases hsvc : i = .svc
  · subst hsvc
    have hE := effect_svc_of_inRange hinit h1 h200
    generalize perform .svc s = t at hE ⊢
    cases hE with
    | svcOvf _ hovf =>
      obtain ⟨-, -, -, hdowncnt, -, hduty, hrange, -⟩ := overflowService_frame Config.params s
      have hserves : servesTick .svc s = false := by simp [servesTick, hovf]
      exact .inl ⟨hserves, closesGate_eq_false_of_servesTick hserves, hdowncnt, hduty, hrange⟩
    | svcDecrement _ hovf htick h2 =>
      have hdowncnt : (s.downcnt - 1).toNat + 1 = s.downcnt.toNat := by bv_omega
      have hopen : closesGate .svc s = false := by
        have hne1 : s.downcnt ≠ 1#8 := by bv_omega
        simp [closesGate, hne1]
      exact .inr (.inl ⟨servesTick_of_decrement hinit hovf htick h2 h200, hopen, hdowncnt,
        by rw [State.setDowncnt_downcnt]; omega, rfl, rfl⟩)
    | svcClose _ hovf htick hone =>
      have hcloses := closesGate_of_close hinit hovf htick hone
      exact .inr (.inr ⟨servesTick_of_closesGate hcloses, hcloses, by rw [hone]; rfl, by simp⟩)
    | svcIdle _ _ htick =>
      have hserves : servesTick .svc s = false := by simp [servesTick, htick]
      exact .inl ⟨hserves, closesGate_eq_false_of_servesTick hserves, rfl, rfl, rfl⟩
  · have hserves : servesTick i s = false := by simp [servesTick, hsvc]
    refine .inl ⟨hserves, closesGate_eq_false_of_servesTick hserves, ?_⟩
    rcases perform_cases i s with hE | ⟨v, -, hr⟩
    · generalize perform i s = t at hE ⊢
      cases hE with
      | init => exact absurd rfl hne
      | edge | wrap | tick | pwmclk | sample => simp
      | svcOvf | svcDecrement | svcClose | svcIdle => exact absurd rfl hsvc
    · simp [hr]

theorem ticksServed_cons (s : State) (i : Instr) (l : List Instr) :
    ticksServed s (i :: l) = (servesTick i s).toNat + ticksServed (perform i s) l := rfl

theorem gateClosures_cons (s : State) (i : Instr) (l : List Instr) :
    gateClosures s (i :: l) = (closesGate i s).toNat + gateClosures (perform i s) l := rfl

/-- The ticks served of the window that is open at the start, those that a run serves on top of them, and what they say
of the gate: the place in the window, the windows closed, and the outputs while the first one is open. -/
theorem gateWindow_run {l : List Instr} {n : Nat} (hinit : s.initialised = true) (hl : Instr.init ∉ l)
    (hstart : s.downcnt.toNat + n = 200) (hn : n < 200) :
    (s.after l).downcnt.toNat = 200 - (n + ticksServed s l) % 200 ∧
    gateClosures s l = (n + ticksServed s l) / 200 ∧
    (n + ticksServed s l < 200 → (s.after l).duty = s.duty ∧ (s.after l).range = s.range) := by
  induction l generalizing s n with
  | nil =>
    have hnone : n + ticksServed s [] = n := rfl
    have hclosures : gateClosures s [] = 0 := rfl
    rw [hnone, hclosures, after_nil]
    exact ⟨by omega, by omega, fun _ => ⟨rfl, rfl⟩⟩
  | cons i l ih =>
    obtain ⟨hne, hl⟩ := not_or.1 (List.mem_cons.not.1 hl)
    have hinit' := initialised_perform i s hinit
    rw [ticksServed_cons, gateClosures_cons, after_cons]
    rcases gate_perform hinit (Ne.symm hne) (by omega) (by omega) with ⟨hserves, hopen, hdowncnt, hduty, hrange⟩ |
      ⟨hserves, hopen, hdowncnt, hpos, hduty, hrange⟩ | ⟨hserves, hcloses, hone, hreload⟩
    · rw [hserves, hopen, ← hduty, ← hrange, Bool.toNat_false, Nat.zero_add, Nat.zero_add]
      exact ih hinit' hl (by rwa [hdowncnt]) hn
    · have hrest := ih (s := perform i s) (n := n + 1) hinit' hl (by omega) (by omega)
      rw [hserves, hopen, ← hduty, ← hrange, Bool.toNat_false, Bool.toNat_true, Nat.zero_add, ← Nat.add_assoc]
      exact hrest
    · obtain ⟨hdowncnt', hclosures, -⟩ := ih (n := 0) hinit' hl (by omega) (by decide)
      rw [hserves, hcloses, Bool.toNat_true, hdowncnt', hclosures]
      exact ⟨by omega, by omega, fun hopen => absurd hopen (by omega)⟩

/-- Settles O25: the run of a window that starts at DOWNCNT 200. -/
theorem gateWindowIsTwoHundredServedTicks : Obligations.GateWindowIsTwoHundredServedTicks := by
  intro s l hinit hdowncnt hl
  have hwindow := gateWindow_run (n := 0) hinit hl (by rw [hdowncnt]; rfl) (by decide)
  rwa [Nat.zero_add] at hwindow

/-- At duty 0 the comparator is high exactly at PWMCNT 0 (43_pwm_output.md R162). -/
theorem pwmCmp_of_duty_zero (hduty : s.duty = 0#8) : s.pwmCmp = true ↔ s.pwmcnt = 0#8 := by
  have hzero : s.pwmcnt = 0#8 ↔ ¬ s.pwmcnt.toNat > 0 := by bv_omega
  rw [State.pwmCmp, hduty, hzero]
  simp

/-- Settles O15: INIT gives DUTY 0, the low range and DOWNCNT 200, and the first window keeps the outputs. -/
theorem outputsBeforeTheFirstClosure : Obligations.OutputsBeforeTheFirstClosure := by
  intro s l hl hserved
  have hfirst : s.after [.init] = (s.initElements Config.params).markInitialised := perform_of_effect .init
  obtain ⟨-, -, houtputs⟩ := gateWindowIsTwoHundredServedTicks (s.after [.init]) l
    (by rw [hfirst]; rfl) (by rw [hfirst]; simp) hl
  obtain ⟨hduty, hrange⟩ := houtputs hserved
  have hafter : s.after (.init :: l) = (s.after [.init]).after l := rfl
  have hduty' : (s.after (.init :: l)).duty = 0#8 := by rw [hafter, hduty, hfirst]; rfl
  have hinit : (s.after (.init :: l)).initialised = true :=
    after_induction (s := perform .init s) (by rw [perform_of_effect .init]; rfl) fun i _ => initialised_perform i
  refine ⟨hduty', by rw [hafter, hrange, hfirst]; rfl, ?_⟩
  rw [after_append, after_cons, after_nil, perform_of_effect (.sample hinit), State.setPin_pwmOut,
    pwmCmp_of_duty_zero hduty']

/-- One event other than INIT conserves the ticks, unless it is a TICK that finds one pending. -/
theorem servesTick_add_tickPend_of_effect (h : Effect i s t) (hne : i ≠ .init)
    (hlost : i = .tick → s.tickPend = false) :
    (servesTick i s).toNat + t.tickPend.toNat = (if i = .tick then 1 else 0) + s.tickPend.toNat := by
  cases h with
  | init => exact absurd rfl hne
  | tick => rw [hlost rfl]; rfl
  | svcOvf _ hovf =>
    obtain ⟨-, htick, -⟩ := overflowService_frame Config.params s
    rw [htick]
    simp [servesTick, hovf]
  | svcDecrement hinit hovf htick h2 h200 =>
    rw [servesTick_of_decrement hinit hovf htick h2 h200, htick]
    rfl
  | svcClose hinit hovf htick h1 =>
    rw [servesTick_of_closesGate (closesGate_of_close hinit hovf htick h1), htick]
    rfl
  | svcIdle _ _ htick => simp [servesTick, htick]
  | edge | wrap | pwmclk | sample => simp [servesTick]

theorem ticksServedInTime_cons (s : State) (i : Instr) (l : List Instr) :
    ticksServedInTime s (i :: l) = (!(i == .tick && s.tickPend) && ticksServedInTime (perform i s) l) := rfl

theorem noTickLost_of_ticksServedInTime {l : List Instr} (h : ticksServedInTime s (i :: l) = true) :
    (i = .tick → s.tickPend = false) ∧ ticksServedInTime (perform i s) l = true := by
  simpa [ticksServedInTime_cons, ← Bool.not_eq_true, imp_iff_not_or] using h

/-- Settles O26, by induction on the run: in the invariant nothing is refused, so every event conserves the ticks. -/
theorem ticksServedInTimeAreAllServed : Obligations.TicksServedInTimeAreAllServed := by
  intro s l hs hinit hl hserved
  induction l generalizing s with
  | nil => rfl
  | cons i l ih =>
    obtain ⟨hne, hl⟩ := not_or.1 (List.mem_cons.not.1 hl)
    obtain ⟨hlost, hserved⟩ := noTickLost_of_ticksServedInTime hserved
    have hE := effect_perform_of_inv i hs hinit
    have hstep := servesTick_add_tickPend_of_effect hE (Ne.symm hne) hlost
    have hrest := ih (perform i s) (inv_of_effect hE hs) (initialised_of_effect hE) hl hserved
    rw [ticksServed_cons, after_cons, List.count_cons]
    simp only [beq_iff_eq]
    omega

end Sys2Proof.Machine
end

section
/-! The output generator over runs (43_pwm_output.md sections 2 and 3). -/

namespace Sys2Proof.Machine

variable {s t : State} {i : Instr}

theorem pwmOut_of_effect (h : Effect i s t) (hne : i ≠ .sample) : t.pwmOut = s.pwmOut := by
  by_contra hpin
  obtain ⟨-, -, -, -, -, -, hwriter, -⟩ := everyElementHasOnlyItsWriters i s t (exec_of_effect h)
  exact hne (hwriter hpin)

/-- Settles O39: SAMPLE is the pin's only writer, and a refusal changes no element. -/
theorem pinHoldsItsLevelBetweenSamples : Obligations.PinHoldsItsLevelBetweenSamples := by
  intro s l hl
  refine after_induction (P := fun u => u.pwmOut = s.pwmOut) rfl fun i hi u hu => ?_
  rcases perform_cases i u with hE | ⟨v, -, hr⟩
  · rw [pwmOut_of_effect hE fun hsample => hl (hsample ▸ hi), hu]
  · rw [hr, State.record_pwmOut, hu]

/-- n counts of the PWM clock add n to PWMCNT modulo 256 and change nothing else. -/
theorem after_replicate_pwmclk (n : Nat) (hinit : s.initialised = true) :
    s.after (List.replicate n .pwmclk) = { s with pwmcnt := s.pwmcnt + BitVec.ofNat 8 n } := by
  induction n generalizing s with
  | zero => simp
  | succ n ih =>
    have hcount : s.pwmcnt + BitVec.ofNat 8 (n + 1) = s.pwmcnt + 1 + BitVec.ofNat 8 n := by
      rw [Nat.add_comm, BitVec.ofNat_add, BitVec.add_assoc]
      rfl
    rw [List.replicate_succ, after_cons, perform_of_effect (.pwmclk hinit), ih (s := s.incPwm) hinit, hcount]
    rfl

/-- Settles O37: 256 counts add 2^8, which is 0 in the counter's width. -/
theorem pwmClockCountsUpWithPeriod256 : Obligations.PwmClockCountsUpWithPeriod256 := by
  refine ⟨decode_encode .pwmclk, fun s hinit => ?_, fun s hinit => ?_⟩
  · rw [← add_ofNat_eq_ofNat_mod]
    exact exec_of_effect (.pwmclk hinit)
  · have hperiod : s.pwmcnt + BitVec.ofNat 8 256 = s.pwmcnt := BitVec.add_zero _
    rw [after_replicate_pwmclk 256 hinit, hperiod]

/-- n times SAMPLE then PWMCLK. -/
def sampleRounds (n : Nat) : List Instr := (List.replicate n [Instr.sample, Instr.pwmclk]).flatten

theorem sampleRounds_succ (n : Nat) : sampleRounds (n + 1) = .sample :: .pwmclk :: sampleRounds n := rfl

/-- The state after one round: the pin at the comparator's level, the counter one up. -/
def State.round (s : State) : State := (s.setPin s.pwmCmp).incPwm

theorem perform_round (hinit : s.initialised = true) : perform .pwmclk (perform .sample s) = s.round := by
  rw [perform_of_effect (.sample hinit), perform_of_effect (.pwmclk (s := s.setPin s.pwmCmp) hinit)]
  rfl

theorem sampledLevels_cons (s : State) (i : Instr) (l : List Instr) :
    sampledLevels s (i :: l) = if i = .sample then (perform i s).pwmOut :: sampledLevels (perform i s) l
      else sampledLevels (perform i s) l := rfl

/-- A round's one sample is the comparator's level before it. -/
theorem sampledLevels_rounds_succ (n : Nat) (hinit : s.initialised = true) :
    sampledLevels s (sampleRounds (n + 1)) = s.pwmCmp :: sampledLevels s.round (sampleRounds n) := by
  rw [sampleRounds_succ, sampledLevels_cons, if_pos rfl, sampledLevels_cons, if_neg (by decide), perform_round hinit,
    perform_of_effect (.sample hinit), State.setPin_pwmOut]

theorem length_sampledLevels_rounds (n : Nat) (hinit : s.initialised = true) :
    (sampledLevels s (sampleRounds n)).length = n := by
  induction n generalizing s with
  | zero => rfl
  | succ n ih => rw [sampledLevels_rounds_succ n hinit, List.length_cons, ih (s := s.round) hinit]

theorem pwmcnt_after_rounds (n : Nat) (hinit : s.initialised = true) :
    (s.after (sampleRounds n)).pwmcnt = s.pwmcnt + BitVec.ofNat 8 n := by
  induction n generalizing s with
  | zero => exact (BitVec.add_zero _).symm
  | succ n ih =>
    rw [sampleRounds_succ, after_cons, after_cons, perform_round hinit, ih (s := s.round) hinit, Nat.add_comm n 1,
      BitVec.ofNat_add, ← BitVec.add_assoc]
    rfl

theorem pwmCmp_eq_decide (s : State) : s.pwmCmp = decide (s.pwmcnt.toNat ≤ s.duty.toNat) := by
  by_cases h : s.pwmcnt.toNat ≤ s.duty.toNat
  · rw [State.pwmCmp, if_neg (Nat.not_lt_of_le h), decide_eq_true h]
  · rw [State.pwmCmp, if_pos (Nat.lt_of_not_le h), decide_eq_false h]

/-- Numbers whose low 8 bits the comparator takes for high. -/
abbrev HighAt (duty k : Nat) : Prop := k % 256 ≤ duty

/-- The high samples of n rounds, as a count over the numbers from k on, where k is PWMCNT in its low 8 bits. -/
theorem count_sampledLevels_rounds (n k : Nat) (hinit : s.initialised = true) (hk : s.pwmcnt.toNat = k % 256) :
    Nat.count (HighAt s.duty.toNat) k + (sampledLevels s (sampleRounds n)).count true =
      Nat.count (HighAt s.duty.toNat) (k + n) := by
  induction n generalizing s k with
  | zero => rfl
  | succ n ih =>
    have hk' : s.round.pwmcnt.toNat = (k + 1) % 256 := by
      have hround : s.round.pwmcnt = s.pwmcnt + 1 := rfl
      rw [hround, BitVec.toNat_add, hk]
      exact Nat.mod_add_mod _ _ _
    have hcmp : s.pwmCmp = decide (HighAt s.duty.toNat k) := by rw [pwmCmp_eq_decide, hk]
    have hrest := ih (s := s.round) (k + 1) hinit hk'
    rw [show s.round.duty = s.duty from rfl, Nat.count_succ, Nat.add_assoc k, Nat.add_comm 1 n] at hrest
    rw [sampledLevels_rounds_succ n hinit, List.count_cons, hcmp, ← hrest]
    simp only [beq_iff_eq, decide_eq_true_eq]
    omega

/-- Of 256 numbers in a row, `duty + 1` are high. -/
theorem count_highAt_period {duty : Nat} (h : duty < 256) (k : Nat) :
    Nat.count (HighAt duty) (k + 256) = Nat.count (HighAt duty) k + (duty + 1) := by
  have hshift : (fun j => HighAt duty (256 + j)) = HighAt duty := by
    funext j
    rw [HighAt, Nat.add_mod_left]
  have hfirst : (Finset.range 256).filter (HighAt duty) = Finset.range (duty + 1) := by
    ext j
    rw [Finset.mem_filter, Finset.mem_range, Finset.mem_range, HighAt]
    omega
  have hperiod : Nat.count (HighAt duty) 256 = duty + 1 := by
    rw [Nat.count_eq_card_filter_range, hfirst, Finset.card_range]
  rw [Nat.add_comm k, Nat.count_add, hperiod, Nat.add_comm]
  simp only [hshift]

/-- Settles O40: the counter runs through 256 numbers in a row, and comes back. -/
theorem highFractionIsDutyPlusOneOf256 : Obligations.HighFractionIsDutyPlusOneOf256 := by
  intro s hinit
  change (sampledLevels s (sampleRounds 256)).length = 256 ∧
    (sampledLevels s (sampleRounds 256)).count true = s.duty.toNat + 1 ∧
    (s.after (sampleRounds 256)).pwmcnt = s.pwmcnt
  have hlt : s.pwmcnt.toNat < 256 := s.pwmcnt.isLt
  have hcount := count_sampledLevels_rounds 256 s.pwmcnt.toNat hinit (Nat.mod_eq_of_lt hlt).symm
  rw [count_highAt_period s.duty.isLt] at hcount
  refine ⟨length_sampledLevels_rounds 256 hinit, Nat.add_left_cancel hcount, ?_⟩
  rw [pwmcnt_after_rounds 256 hinit]
  exact BitVec.add_zero _

end Sys2Proof.Machine
end

section
/-! Progress along endless runs (45_service_and_init.md section 1, R183; D26). -/

namespace Sys2Proof.Machine

variable {s : State} {e : Nat → Instr} {i : Instr}

theorem requests_init (s : State) (src : Source) : (perform .init s).requests src = false := by
  rw [perform_of_effect .init]
  cases src with
  | overflow => simp
  | tick => simp

/-- A service of a source is an SVC. -/
theorem eq_svc_of_serves {src : Source} (h : serves src i s = true) : i = .svc := by
  cases src with
  | overflow => exact (servesOverflow_iff.1 h).1
  | tick => exact (servesTick_iff.1 h).1

/-- A request of a source holds the interrupt line at 1 (60_exceptions.md R202). -/
theorem irq_of_requests {src : Source} (h : s.requests src = true) : s.irq = true :=
  (irq_eq_true_iff_requests s).2 ⟨src, h⟩

/-- A bit that is 1 at n and 0 later is 1 up to some event that takes it to 0. -/
theorem exists_last_request {src : Source} {n d : Nat} (hn : (stateAt e s n).requests src = true)
    (hlater : (stateAt e s (n + d)).requests src = false) :
    ∃ m, n ≤ m ∧ (∀ k, n ≤ k → k ≤ m → (stateAt e s k).requests src = true) ∧
      (stateAt e s (m + 1)).requests src = false := by
  induction d generalizing n with
  | zero => exact absurd (hn.symm.trans hlater) (by decide)
  | succ d ih =>
    cases hnext : (stateAt e s (n + 1)).requests src with
    | false => exact ⟨n, Nat.le_refl n, fun k hnk hkn => Nat.le_antisymm hnk hkn ▸ hn, hnext⟩
    | true =>
      obtain ⟨m, hnm, hall, hclear⟩ := ih hnext (by rwa [Nat.add_assoc, Nat.add_comm 1])
      refine ⟨m, Nat.le_of_succ_le hnm, fun k hnk hkm => ?_, hclear⟩
      rcases Nat.eq_or_lt_of_le hnk with rfl | hlt
      · exact hn
      · exact hall k hlt hkm

/-- An event that serves a source leaves its bit 0. -/
theorem stateAt_succ_requests_of_serves {src : Source} {m : Nat} (h : serves src (e m) (stateAt e s m) = true) :
    (stateAt e s (m + 1)).requests src = false :=
  request_clear_of_serves h

/-- A request whose bit, were it to stay 1, would be served, does not stay 1. -/
theorem exists_request_clear {src : Source} {n : Nat}
    (h : (∀ m, n ≤ m → (stateAt e s m).requests src = true) → ∃ m, n ≤ m ∧ serves src (e m) (stateAt e s m) = true) :
    ∃ m, n ≤ m ∧ (stateAt e s m).requests src = false := by
  by_contra! hstays
  have hall : ∀ m, n ≤ m → (stateAt e s m).requests src = true := fun m hm => Bool.eq_true_of_not_eq_false (hstays m hm)
  obtain ⟨m, hnm, hserves⟩ := h hall
  exact hstays (m + 1) (Nat.le_succ_of_le hnm) (stateAt_succ_requests_of_serves hserves)

/-- A weakly fair run ends every request, by its own service or by INIT, and the bit is 1 until then. -/
theorem request_ends_of_weaklyFair (hfair : WeaklyFair e s) {src : Source} {n : Nat}
    (hn : (stateAt e s n).requests src = true) :
    ∃ m, n ≤ m ∧ (∀ k, n ≤ k → k ≤ m → (stateAt e s k).requests src = true) ∧
      (serves src (e m) (stateAt e s m) = true ∧ (stateAt e s (m + 1)).requests src = false ∨ e m = .init) := by
  obtain ⟨l, hnl, hl⟩ := exists_request_clear (hfair src n)
  obtain ⟨d, rfl⟩ := Nat.exists_eq_add_of_le hnl
  obtain ⟨m, hnm, hall, hclear⟩ := exists_last_request hn hl
  refine ⟨m, hnm, hall, ?_⟩
  rcases request_cleared_only_by (hall m hnm (Nat.le_refl m)) hclear with hinit | hserves
  · exact .inr hinit
  · exact .inl ⟨hserves, hclear⟩

theorem irq_perform_init (s : State) : (perform .init s).irq = false := by
  rw [Bool.eq_false_iff]
  intro hirq
  obtain ⟨src, hreq⟩ := (irq_eq_true_iff_requests _).1 hirq
  exact absurd (hreq.symm.trans (requests_init s src)) (by decide)

/-- Settles O57: while the interrupt line stays 1 the source that requests is served, by an SVC, since an INIT would
take the line to 0. -/
theorem fairRunServesEveryRequestOrInitDiscardsIt : Obligations.FairRunServesEveryRequestOrInitDiscardsIt := by
  intro e s hfair
  refine ⟨fun src n hn => request_ends_of_weaklyFair hfair hn, fun n hirq => ?_⟩
  obtain ⟨src, hn⟩ := (irq_eq_true_iff_requests _).1 (hirq n (Nat.le_refl n))
  obtain ⟨m, hnm, -, ⟨hserves, -⟩ | hinit⟩ := request_ends_of_weaklyFair hfair hn
  · exact ⟨m, hnm, eq_svc_of_serves hserves⟩
  · have hlow := hirq (m + 1) (Nat.le_succ_of_le hnm)
    rw [stateAt_succ, hinit, irq_perform_init] at hlow
    exact absurd hlow (by decide)

/-- Along a run from an initialised state in the invariant every state is one. -/
theorem ready_stateAt (hinit : s.initialised = true) (hs : Inv s) (n : Nat) :
    (stateAt e s n).initialised = true ∧ Inv (stateAt e s n) := by
  obtain ⟨hinit', hs', -⟩ : ReadyWith s.refusals (stateAt e s n) :=
    stateAt_induction ⟨hinit, hs, rfl⟩ readyWith_perform n
  exact ⟨hinit', hs'⟩

/-- Settles O47: the SVC that comes while a bit stays 1 serves an overflow when one is pending, and else the tick. -/
theorem fairServiceClearsEveryRequest : Obligations.FairServiceClearsEveryRequest := by
  intro e s hinit hs hfair
  refine ⟨fun n _ => exists_request_clear (src := .overflow) fun hall => ?_,
    fun n _ hno => exists_request_clear (src := .tick) fun hall => ?_⟩
  all_goals
    obtain ⟨m, hnm, hsvc⟩ := hfair n fun m hm => irq_of_requests (hall m hm)
    obtain ⟨hinit', hs'⟩ := ready_stateAt (e := e) hinit hs m
    refine ⟨m, hnm, ?_⟩
    rw [hsvc]
  · exact servesOverflow_iff.2 ⟨rfl, hinit', hall m hnm⟩
  · exact servesTick_iff.2 ⟨rfl, hinit', hno m hnm, hall m hnm, downcnt_inRange_of_inv hs' hinit'⟩

end Sys2Proof.Machine
end
